-- ==== Sys2Proof/Word.lean ====
section
/-! DEFINITION. The word types of PKCORE: the `u64` and `u128` of R9, the 4-bit register index of R51 and the 4-bit error code of R20. -/

namespace Sys2Proof

/-- `u64` of R9: every operand, result, modulus and generator state (W = 64, R7). -/
abbrev Word := BitVec 64

/-- `u128` of R9: the product accumulator ACC (ACCW = 128, R7). -/
abbrev Wide := BitVec 128

/-- An index of the register index space, 0 to 15 (R21, R51). -/
abbrev RegIndex := BitVec 4

/-- The 4-bit ERR field (R20, R171). -/
abbrev ErrCode := BitVec 4

/-- One byte of the register window on a byte-addressed bus (R52). -/
abbrev Byte := BitVec 8

end Sys2Proof
end

