-- ==== Sys2Proof/Config.lean ====
section
/-! DEFINITION. What the spec leaves to an implementation or a platform: the unspecified contents of the working registers after RESET (R191) and the placement BASE of the register window (R53). -/

namespace Sys2Proof

/-- A FREE VALUE: what a 64-bit working register (MX_R, MX_B, MX_E, MX_M, GCD_A, GCD_B) holds after RESET.
R191: "an implementation may clear them, keep them or leave them random". The first argument numbers the draw,
the second is the register's content before the RESET (`none` at power-on). It has no body: nothing can be proved
about its value. Log entry 1. -/
opaque Config.unspecifiedWord : Nat → Option Word → Word

/-- A FREE VALUE: what ACC holds after RESET (R35, R191), as `Config.unspecifiedWord`. Log entry 1. -/
opaque Config.unspecifiedWide : Nat → Option Wide → Wide

/-- The OPEN parameter BASE (R53): where the platform puts slot 0. No rule of the block reads it. Log entry 6. -/
opaque Config.base : Nat

end Sys2Proof
end

