-- ==== Sys2Proof/Syntax.lean ====
section
/-! DEFINITION. The instruction set of PKCORE: the four commands of R73 (one constructor for each row of spec/opcode_table.json), and the two fields of a command word (R71). -/

namespace Sys2Proof

/-- The commands (R2, R73, R82). None has an operand field: operands travel in ARG0 to ARG2 (R70, R72). -/
inductive Instr where
  /-- MODEXP, `base^exp mod mod` (R92). -/
  | modexp
  /-- GCD, `gcd(a, b)` (R112). -/
  | gcd
  /-- BBS_INIT, construct the generator from `(N, seed)` (R122). -/
  | bbsInit
  /-- BBS_NEXT, one bit of the generator (R125). -/
  | bbsNext
deriving DecidableEq, Repr

/-- The mnemonic of a command, as the opcode table and R79 spell it. -/
def Instr.mnemonic : Instr → String
  | .modexp => "MODEXP"
  | .gcd => "GCD"
  | .bbsInit => "BBS_INIT"
  | .bbsNext => "BBS_NEXT"

/-- The two fields of a command word (R71): RSV = bits 63 to 8, OPC = bits 7 to 0. -/
structure CmdWord where
  rsv : BitVec 56
  opc : BitVec 8
deriving DecidableEq, Repr

end Sys2Proof
end

