-- ==== Sys2Proof/Machine/State.lean ====
section
/-! DEFINITION. The state of PKCORE (R20), the two agents' plain data (R14, R80), the state after reset (R40), and the reasons a step can stop. -/

namespace Sys2Proof.Machine

/-- PHASE (R30): which unit's loop runs. -/
inductive Phase where
  /-- IDLE: no command runs. -/
  | idle
  /-- MX_LOOP: the MODEXP loop (R93). -/
  | mxLoop
  /-- GCD_LOOP: the GCD loop (R113). -/
  | gcdLoop
  /-- INIT_GCD: the coprimality check of BBS_INIT (R123). -/
  | initGcd
  /-- BBS_SQ: the squaring of BBS_NEXT (R126). -/
  | bbsSq
deriving DecidableEq, Repr

/-- The error kinds of R171, by name. The block raises four of them; the other two are reserved for a host library (R178). -/
inductive ErrKind where
  | invalidModulus
  /-- Never raised by the block (R178). -/
  | noCoprimeSeedFound
  /-- Never raised by the block (R178). -/
  | bitLengthTooSmall
  | invalidSeed
  | generatorNotReady
  | illegalCommand
deriving DecidableEq, Repr

/-- One line of a host program (R78, R80). `CMD` lines and `CALL` are written with these (Machine/Program.lean). -/
inductive HostLine where
  /-- `WR reg, value`: RegWrite(i, v) (R55, R78). -/
  | wr (i : RegIndex) (v : Word)
  /-- `RD reg`: RegRead(i) (R54, R78). -/
  | rd (i : RegIndex)
  /-- `WAIT`: read STATUS until BUSY is 0 (R80). -/
  | wait
  /-- The end of a `CALL`: it yields the pair (ERR, RESULT) of the values just read (R80). It is no transaction. -/
  | yieldPair
  /-- A BITSEQ with `n` calls still to make and the bits `out` collected so far; `BITSEQ n` starts with `out` empty
  (R80, R142). It is no transaction. -/
  | bitseq (n : Nat) (out : List Bool)
  /-- After a call of a BITSEQ: stop with its error, or append its bit to `out` and go on with `n` more calls (R142).
  It is no transaction. -/
  | bitseqRest (n : Nat) (out : List Bool)
deriving DecidableEq, Repr

/-- Whose event comes next (R14, R58): a step of the HOST, a CORE step, or the platform's RESET. -/
inductive Turn where
  | host
  | core
  | reset
deriving DecidableEq, Repr

/-- What one RegRead returned to the host (R54). -/
structure ReadRecord where
  index : RegIndex
  value : Word
deriving DecidableEq, Repr

/-- The pair (ERR, RESULT) that a `CALL` yields (R80). -/
structure CallResult where
  err : ErrCode
  result : Word
deriving DecidableEq, Repr

/-- What a BITSEQ returns (R142). -/
inductive BitseqResult where
  /-- Bit 0 of each RESULT, in call order. -/
  | bits (out : List Bool)
  /-- The error of the first call whose ERR is not 0. -/
  | error (err : ErrCode)
deriving DecidableEq, Repr

/-- The state: R20's list, and below it the model's own data for the two agents. -/
structure State where
  /-- ARG0, index 0 (R22). -/
  arg0 : Word
  /-- ARG1, index 1 (R23). -/
  arg1 : Word
  /-- ARG2, index 2 (R24). -/
  arg2 : Word
  /-- RESULT, index 5 (R25). -/
  result : Word
  /-- DONE, STATUS bit 1 (R28). -/
  done : Bool
  /-- BBS_VALID, STATUS bit 2 (R28, R34). -/
  bbsValid : Bool
  /-- OVR, STATUS bit 3 (R28, R76). -/
  ovr : Bool
  /-- ERR, STATUS bits 7 to 4 (R28, R171). -/
  err : ErrCode
  /-- PHASE, private (R30). -/
  phase : Phase
  /-- MX_R, the running result (R31). -/
  mxR : Word
  /-- MX_B, the running base (R31). -/
  mxB : Word
  /-- MX_E, the remaining exponent (R31). -/
  mxE : Word
  /-- MX_M, the modulus of the running MODEXP (R31). -/
  mxM : Word
  /-- GCD_A (R33). -/
  gcdA : Word
  /-- GCD_B (R33). -/
  gcdB : Word
  /-- ACC, the product accumulator (R35). -/
  acc : Wide
  /-- BBS_N, the generator's modulus (R34). -/
  bbsN : Word
  /-- BBS_STATE, the generator's state (R34). -/
  bbsState : Word
  /-- MODEL'S OWN: the host program still to be issued, first line first (R17, R80; log entry 3). -/
  lines : List HostLine
  /-- MODEL'S OWN: the interleaving of HOST, CORE and RESET for the next events; when it is empty a busy CORE steps
  and an idle one leaves the turn to the host (R58, R202; log entry 3). -/
  turns : List Turn
  /-- MODEL'S OWN: what the host's reads have returned, newest first (R54; log entry 3). -/
  reads : List ReadRecord
  /-- MODEL'S OWN: the pairs (ERR, RESULT) that the host's CALLs have yielded, newest first (R80; log entry 8). -/
  calls : List CallResult
  /-- MODEL'S OWN: what the host's BITSEQs have returned, newest first (R142; log entry 8). -/
  bitseqs : List BitseqResult
  /-- MODEL'S OWN: how many unspecified values have been drawn (R191; log entry 1). -/
  draws : Nat
deriving DecidableEq, Repr

/-- Why the machine stops. -/
inductive Fault where
  /-- A modular reduction by 0: raised by the MX_LOOP and BBS_SQ steps where the divisor register is 0. R12: "x mod 0
  is never evaluated by any rule of this spec", so no state that a run reaches raises it; SAFE (the model stops where
  the spec gives no value). Log entry 5. -/
  | zeroModulus
deriving DecidableEq, Repr

/-- Why an instruction has no meaning here. -/
inductive Refusal where
  /-- The instruction is not modelled: raised by a refused arm of `exec` only (at present by none); SAFE. -/
  | notModelled (mnemonic : String)
deriving DecidableEq, Repr

/-- The state after the RESET event, with nothing for the host to do (R40, R190). The seven working registers hold
free values: R191, "never 0 by default" (log entry 1). The host's data are empty (log entry 3). -/
def State.reset : State where
  arg0 := 0
  arg1 := 0
  arg2 := 0
  result := 0
  done := false
  bbsValid := false
  ovr := false
  err := 0
  phase := .idle
  mxR := Config.unspecifiedWord 0 none
  mxB := Config.unspecifiedWord 1 none
  mxE := Config.unspecifiedWord 2 none
  mxM := Config.unspecifiedWord 3 none
  gcdA := Config.unspecifiedWord 4 none
  gcdB := Config.unspecifiedWord 5 none
  acc := Config.unspecifiedWide 6 none
  bbsN := 0
  bbsState := 0
  lines := []
  turns := []
  reads := []
  calls := []
  bitseqs := []
  draws := 7

end Sys2Proof.Machine
end

