-- ==== Sys2Proof/Machine/Flags.lean ====
section
/-! DEFINITION. The flags of R27 and R28: BUSY, the STATUS word, the error codes, and who sets and clears a flag. -/

namespace Sys2Proof.Machine

/-- BUSY: "1 exactly when PHASE != IDLE"; not stored (R28). -/
def busy (s : State) : Bool := decide (s.phase ≠ .idle)

/-- The codes of R171. -/
def errCode : ErrKind → ErrCode
  | .invalidModulus => 1
  | .noCoprimeSeedFound => 2
  | .bitLengthTooSmall => 3
  | .invalidSeed => 4
  | .generatorNotReady => 5
  | .illegalCommand => 6

/-- STATUS (R27): `BUSY + 2*DONE + 4*BBS_VALID + 8*OVR + 16*ERR`, assembled at the moment of the read. -/
def statusWord (s : State) : Word :=
  BitVec.ofNat 64
    ((busy s).toNat + 2 * s.done.toNat + 4 * s.bbsValid.toNat + 8 * s.ovr.toNat + 16 * s.err.toNat)

/-- STATUS bit 0 of a value the host has read (R27, R80). -/
def busyOf (status : Word) : Bool := status.getLsbD 0

/-- STATUS bits 7 to 4 of a value the host has read (R27, R80). -/
def errOf (status : Word) : ErrCode := status.extractLsb' 4 4

/-- The first action of every accept step (R28, R75): `DONE <- 0; ERR <- 0`. -/
def clearOutcome (s : State) : State := { s with done := false, err := 0 }

/-- A dropped CMD write sets OVR and changes nothing else (R76). -/
def setOverrun (s : State) : State := { s with ovr := true }

end Sys2Proof.Machine
end

