-- ==== Sys2Proof/Machine/Operands.lean ====
section
/-! DEFINITION. Operand assembly (R72): each command takes its operands from fixed registers, whole, with no extension, scaling or shift. -/

namespace Sys2Proof.Machine

/-- MODEXP `base = ARG0`. -/
def opBase (s : State) : Word := s.arg0
/-- MODEXP `exp = ARG1`. -/
def opExp (s : State) : Word := s.arg1
/-- MODEXP `mod = ARG2`. -/
def opMod (s : State) : Word := s.arg2
/-- GCD `a = ARG0`. -/
def opA (s : State) : Word := s.arg0
/-- GCD `b = ARG1`. -/
def opB (s : State) : Word := s.arg1
/-- BBS_INIT `N = ARG0`. -/
def opN (s : State) : Word := s.arg0
/-- BBS_INIT `seed = ARG1`. -/
def opSeed (s : State) : Word := s.arg1

end Sys2Proof.Machine
end

