-- ==== Sys2Proof/Machine/Ops.lean ====
section
/-! DEFINITION. The shared operations: the modular multiply (R13), the two ends of a command (R175, R176), the accept step's frame (R75, R76), the register map and reads (R21, R54), and the RESET event (R190). -/

namespace Sys2Proof.Machine

/-- `a * b`, exact: "the full product in u128" (R12, R13). -/
def product (a b : Word) : Wide := BitVec.ofNat 128 (a.toNat * b.toNat)

/-- `ACC mod m` with `m >= 1`, below `m` and hence a u64 (R12, R13). Its callers have ruled out `m = 0`. -/
def reduce (acc : Wide) (m : Word) : Word := BitVec.ofNat 64 (acc.toNat % m.toNat)

/-- `mulmod(a, b, m)`: the exact product, then the reduction (R13). -/
def mulmod (a b m : Word) : Word := reduce (product a b) m

/-- `zext_64` of bit 0 of a word (R11, R126). -/
def lowBit (w : Word) : Word := BitVec.setWidth 64 (BitVec.ofBool (w.getLsbD 0))

/-- `complete`, the normal end of a command (R175). ERR stays 0, and RESULT holds what the same step wrote. -/
def complete (s : State) : State := { s with done := true, phase := .idle }

/-- RESULT <- v, then `complete`: "Every completing step writes RESULT in the same step before complete" (R175). -/
def completeWith (v : Word) (s : State) : State := complete { s with result := v }

/-- `raise E`, the erroneous end of a command, the block's one way of reporting an error (R170, R176). It saves
nothing, changes no mode and goes to no handler. -/
def raise (e : ErrKind) (s : State) : State :=
  { s with result := 0, err := errCode e, done := true, phase := .idle }

/-- A CMD write (R26, R55): when idle, the accept step, which clears DONE and ERR and goes on as `accept` says (R75);
when busy, the word is dropped, whatever it is, and OVR is set (R76). -/
def issue (accept : State → State) (s : State) : State :=
  if s.phase = .idle then accept (clearOutcome s) else setOverrun s

/-- One iteration of Euclid's algorithm in the GCD unit (R113, R123): the remainder of the old GCD_A by the old
GCD_B. Its callers have ruled out GCD_B = 0. -/
def euclid (s : State) : State := { s with gcdA := s.gcdB, gcdB := s.gcdA % s.gcdB }

/-- The registers of the index space by name (R21). -/
inductive Slot where
  | arg0
  | arg1
  | arg2
  | cmd
  | status
  | result
  | reserved
deriving DecidableEq, Repr

/-- The index of ARG0 (R21). -/
abbrev idxArg0 : RegIndex := 0
/-- The index of ARG1 (R21). -/
abbrev idxArg1 : RegIndex := 1
/-- The index of ARG2 (R21). -/
abbrev idxArg2 : RegIndex := 2
/-- The index of CMD (R21). -/
abbrev idxCmd : RegIndex := 3
/-- The index of STATUS (R21). -/
abbrev idxStatus : RegIndex := 4
/-- The index of RESULT (R21). -/
abbrev idxResult : RegIndex := 5

/-- The register map of R21: 6 slots implemented, 6 to 15 reserved. -/
def slotOf (i : RegIndex) : Slot :=
  if i = idxArg0 then .arg0
  else if i = idxArg1 then .arg1
  else if i = idxArg2 then .arg2
  else if i = idxCmd then .cmd
  else if i = idxStatus then .status
  else if i = idxResult then .result
  else .reserved

/-- Where slot `i` begins on a byte-addressed bus: `BASE + 8*i` (R52, R53). No rule of the block reads it. -/
def slotAddress (i : RegIndex) : Nat := Config.base + 8 * i.toNat

/-- `RegRead(i)`: the value returned (R54). CMD and the reserved indices read as 0 (R26, R39). -/
def regRead (i : RegIndex) (s : State) : Word :=
  match slotOf i with
  | .arg0 => s.arg0
  | .arg1 => s.arg1
  | .arg2 => s.arg2
  | .cmd => 0
  | .status => statusWord s
  | .result => s.result
  | .reserved => 0

/-- The host performs `RegRead(i)`: the block does not change, the host has the value (R54). -/
def recordRead (i : RegIndex) (s : State) : State :=
  { s with reads := ⟨i, regRead i s⟩ :: s.reads }

/-- `ARG0 <- v` (R22, R55). -/
def setArg0 (v : Word) (s : State) : State := { s with arg0 := v }
/-- `ARG1 <- v` (R23, R55). -/
def setArg1 (v : Word) (s : State) : State := { s with arg1 := v }
/-- `ARG2 <- v` (R24, R55). -/
def setArg2 (v : Word) (s : State) : State := { s with arg2 := v }

/-- The host's list of lines still to be issued becomes `ls`. -/
def setLines (ls : List HostLine) (s : State) : State := { s with lines := ls }

/-- The present turn is used up. -/
def dropTurn (s : State) : State := { s with turns := s.turns.tail }

/-- The RESET event (R190, R192): every piece of state at the value of R40, whatever PHASE is. The working registers
get free values that may depend on what they held (R191; log entry 1). The host's own data are not the block's. -/
def resetEvent (s : State) : State :=
  { s with
    arg0 := 0, arg1 := 0, arg2 := 0, result := 0
    done := false, bbsValid := false, ovr := false, err := 0
    phase := .idle
    mxR := Config.unspecifiedWord s.draws (some s.mxR)
    mxB := Config.unspecifiedWord (s.draws + 1) (some s.mxB)
    mxE := Config.unspecifiedWord (s.draws + 2) (some s.mxE)
    mxM := Config.unspecifiedWord (s.draws + 3) (some s.mxM)
    gcdA := Config.unspecifiedWord (s.draws + 4) (some s.gcdA)
    gcdB := Config.unspecifiedWord (s.draws + 5) (some s.gcdB)
    acc := Config.unspecifiedWide (s.draws + 6) (some s.acc)
    bbsN := 0, bbsState := 0
    draws := s.draws + 7 }

end Sys2Proof.Machine
end

