-- ==== Sys2Proof/Machine/Bbs.lean ====
section
/-! DEFINITION. BBS_INIT (R122, R123) and BBS_NEXT (R125, R126). -/

namespace Sys2Proof.Machine

/-- "ARG1 < 2 or ARG1 > ARG0 - 2" fails (R122): the seed lies in `[2, N - 2]`. Used only where `N >= 2`. -/
def seedInRange (n seed : Word) : Bool := decide (2 ≤ seed.toNat ∧ seed.toNat ≤ n.toNat - 2)

/-- The old generator is gone: `BBS_VALID <- 0` (R122). -/
def dropGenerator (s : State) : State := { s with bbsValid := false }

/-- The registers as a BBS_INIT accept that raises nothing loads them (R122). -/
def loadGenerator (s : State) : State :=
  { s with
    bbsN := opN s, bbsState := opSeed s, gcdA := opSeed s, gcdB := opN s
    phase := .initGcd }

/-- AcceptBBS_INIT (R122), the checks in the order of R179; BBS_VALID is cleared in every case. -/
def acceptBbsInit (s : State) : State :=
  if (opN s).toNat < 2 then raise .invalidModulus (dropGenerator s)
  else if seedInRange (opN s) (opSeed s) then loadGenerator (dropGenerator s)
  else raise .invalidSeed (dropGenerator s)

/-- BBS_INIT. -/
def execBbsInit (s : State) : Host.Outcome State Fault Refusal := .next (issue acceptBbsInit s)

/-- The construction succeeds: `BBS_VALID <- 1` (R123). -/
def validateGenerator (s : State) : State := { s with bbsValid := true }

/-- StepINIT_GCD (R123). -/
def initGcdStep (s : State) : Host.Outcome State Fault Refusal :=
  if s.gcdB = 0 then
    if s.gcdA = 1 then .next (completeWith 0 (validateGenerator s)) else .next (raise .invalidSeed s)
  else .next (euclid s)

/-- AcceptBBS_NEXT (R125). -/
def acceptBbsNext (s : State) : State :=
  if s.bbsValid then { s with phase := .bbsSq } else raise .generatorNotReady s

/-- BBS_NEXT. -/
def execBbsNext (s : State) : Host.Outcome State Fault Refusal := .next (issue acceptBbsNext s)

/-- `state <- state^2 mod N` through the 128-bit accumulator (R126). -/
def squareState (s : State) : State :=
  { s with acc := product s.bbsState s.bbsState, bbsState := mulmod s.bbsState s.bbsState s.bbsN }

/-- StepBBS_SQ (R126): the bit returned is bit 0 of the state after the update. A divisor of 0, which no run reaches,
stops the model (log entry 5). -/
def bbsSqStep (s : State) : Host.Outcome State Fault Refusal :=
  if s.bbsN = 0 then .fault .zeroModulus
  else .next (completeWith (lowBit (squareState s).bbsState) (squareState s))

end Sys2Proof.Machine
end

