-- ==== Sys2Proof/Machine/Gcd.lean ====
section
/-! DEFINITION. GCD: the accept step (R112) and the loop step (R113). -/

namespace Sys2Proof.Machine

/-- AcceptGCD (R112): "the pair is taken as given"; no operand is checked. -/
def acceptGcd (s : State) : State :=
  { s with gcdA := opA s, gcdB := opB s, phase := .gcdLoop }

/-- GCD. -/
def execGcd (s : State) : Host.Outcome State Fault Refusal := .next (issue acceptGcd s)

/-- StepGCD_LOOP (R113): "terminal state when b == 0, returns a". -/
def gcdLoopStep (s : State) : Host.Outcome State Fault Refusal :=
  if s.gcdB = 0 then .next (completeWith s.gcdA s) else .next (euclid s)

end Sys2Proof.Machine
end

