-- ==== Sys2Proof/Machine/Modexp.lean ====
section
/-! DEFINITION. MODEXP: the accept step (R92) and the loop step (R93). -/

namespace Sys2Proof.Machine

/-- The working registers as a MODEXP accept that raises nothing loads them (R92). -/
def loadModexp (s : State) : State :=
  { s with
    mxM := opMod s, mxR := 1, mxB := opBase s % opMod s, mxE := opExp s
    phase := .mxLoop }

/-- AcceptMODEXP (R92): InvalidModulus for a modulus below 2, before any working register is written. -/
def acceptModexp (s : State) : State :=
  if (opMod s).toNat < 2 then raise .invalidModulus s else loadModexp s

/-- MODEXP. -/
def execModexp (s : State) : Host.Outcome State Fault Refusal := .next (issue acceptModexp s)

/-- One loop iteration that does not complete (R93). All right-hand sides read the state before the step, and ACC
ends it holding the square. -/
def modexpIterate (s : State) : State :=
  { s with
    acc := product s.mxB s.mxB
    mxR := if s.mxE.getLsbD 0 then mulmod s.mxR s.mxB s.mxM else s.mxR
    mxB := mulmod s.mxB s.mxB s.mxM
    mxE := s.mxE >>> 1 }

/-- StepMX_LOOP (R93, R94). A divisor of 0, which no run reaches, stops the model (log entry 5). -/
def mxLoopStep (s : State) : Host.Outcome State Fault Refusal :=
  if s.mxE = 0 then .next (completeWith s.mxR s)
  else if s.mxM = 0 then .fault .zeroModulus
  else .next (modexpIterate s)

end Sys2Proof.Machine
end

