-- ==== Sys2Proof/Machine/Dispatch.lean ====
section
/-! DEFINITION. `exec`: a CMD write of one command's word (R26, R75), one arm per constructor of Instr. -/

namespace Sys2Proof.Machine

def exec (i : Instr) (s : State) : Host.Outcome State Fault Refusal :=
  match i with
  | .modexp => Sys2Proof.Machine.execModexp s
  | .gcd => Sys2Proof.Machine.execGcd s
  | .bbsInit => Sys2Proof.Machine.execBbsInit s
  | .bbsNext => Sys2Proof.Machine.execBbsNext s

end Sys2Proof.Machine
end

