-- ==== Sys2Proof/WellFormed.lean ====
section
/-! DEFINITION. Which command words are legal (R74), check by check, and the well-formedness of an instruction. -/

namespace Sys2Proof

/-- R71: RSV "must be zero". -/
def CmdWord.reservedOk (c : CmdWord) : Bool := c.rsv == 0

/-- R73: the four defined opcodes; "every other value of OPC is reserved". -/
def CmdWord.opcodeOk (c : CmdWord) : Bool :=
  c.opc == 0x01 || c.opc == 0x02 || c.opc == 0x03 || c.opc == 0x04

/-- R74: "A command word is legal exactly when w[63:8] == 0 and w[7:0] is one of 0x01, 0x02, 0x03, 0x04". -/
def CmdWord.legal (c : CmdWord) : Bool := c.reservedOk && c.opcodeOk

/-- A command has no operand field that could be out of range (R71), so each one is well-formed. -/
def Instr.wellFormed : Instr → Bool
  | .modexp => true
  | .gcd => true
  | .bbsInit => true
  | .bbsNext => true

end Sys2Proof
end

