-- ==== Sys2Proof/Decode.lean ====
section
/-! DEFINITION. Decoding a command word (R70 to R75) and the encoder written from the same table (R73). Total: every word of the 2^64 either decodes or is rejected by name. -/

namespace Sys2Proof

/-- Why a word is no command. Each of the first two ends the accept with IllegalCommand (R74, R177);
the third is about a byte string that is not one whole 64-bit transaction (R56). -/
inductive DecodeError where
  /-- Non-zero bits 63 to 8. -/
  | reservedBits
  /-- OPC is 0x00 or 0x05 to 0xFF. -/
  | reservedOpcode
  /-- Not exactly the 8 bytes of one register. -/
  | notOneWord
deriving DecidableEq, Repr

/-- The fields of a command word (R71). -/
def fieldsOf (w : Word) : CmdWord where
  rsv := w.extractLsb' 8 56
  opc := w.extractLsb' 0 8

/-- The word with these fields (R71). -/
def wordOf (c : CmdWord) : Word := c.rsv ++ c.opc

/-- The decode of R75, in its order: reserved bits first, then the opcode. -/
def decode (w : Word) : Except DecodeError Instr :=
  if (fieldsOf w).rsv ≠ 0 then .error .reservedBits
  else if (fieldsOf w).opc = 0x01 then .ok .modexp
  else if (fieldsOf w).opc = 0x02 then .ok .gcd
  else if (fieldsOf w).opc = 0x03 then .ok .bbsInit
  else if (fieldsOf w).opc = 0x04 then .ok .bbsNext
  else .error .reservedOpcode

/-- The opcode map of R73. -/
def opcodeOf : Instr → BitVec 8
  | .modexp => 0x01
  | .gcd => 0x02
  | .bbsInit => 0x03
  | .bbsNext => 0x04

/-- The command word of a command (R73, R79): RSV is zero. -/
def encode (i : Instr) : Word := wordOf { rsv := 0, opc := opcodeOf i }

/-- The 8 bytes of a register on a byte-addressed bus, least-significant byte at the lowest address (R52). -/
def bytesOfWord (w : Word) : List Byte :=
  [w.extractLsb' 0 8, w.extractLsb' 8 8, w.extractLsb' 16 8, w.extractLsb' 24 8,
   w.extractLsb' 32 8, w.extractLsb' 40 8, w.extractLsb' 48 8, w.extractLsb' 56 8]

/-- The register value that exactly 8 bytes carry, lowest address first (R52); no shorter or longer access is a
transaction (R56). -/
def wordOfBytes : List Byte → Option Word
  | [b0, b1, b2, b3, b4, b5, b6, b7] => some (b7 ++ b6 ++ b5 ++ b4 ++ b3 ++ b2 ++ b1 ++ b0)
  | _ => none

/-- Decoding the bytes of one command word. -/
def decodeBytes (bs : List Byte) : Except DecodeError Instr :=
  match wordOfBytes bs with
  | some w => decode w
  | none => .error .notOneWord

/-- The bytes of a command's word. -/
def encodeBytes (i : Instr) : List Byte := bytesOfWord (encode i)

/-- The command word whose low `nbits` bits are those of `w` and whose other bits are zero; `none` when a bit at 64 or above is set. -/
def tableWord (nbits w : Nat) : Option Word :=
  if w % 2 ^ nbits < 2 ^ 64 then some (BitVec.ofNat 64 (w % 2 ^ nbits)) else none

/-- What the decoder reads from an instruction numbered as spec/opcode_table.json numbers it: the one 64-bit word,
laid out as 8 bytes and given to the decoder. -/
def decodeTableWord (nbits w : Nat) : Option Instr :=
  match tableWord nbits w with
  | some v => (decodeBytes (bytesOfWord v)).toOption
  | none => none

end Sys2Proof
end

