-- ==== Sys2Proof/Machine/Program.lean ====
section
/-! DEFINITION. Host listings (R78 to R81, R146): the abbreviations and pseudo-instructions as lists of host lines. -/

namespace Sys2Proof.Machine

/-- `CMD <mnemonic>` (R79): a write of the command word. -/
def cmdLine (i : Instr) : HostLine := .wr idxCmd (encode i)

/-- `CALL <mnemonic>` (R80): `CMD <mnemonic>; WAIT; RD STATUS; RD RESULT`, and the pair it yields. -/
def callLines (i : Instr) : List HostLine :=
  [cmdLine i, .wait, .rd idxStatus, .rd idxResult, .yieldPair]

/-- `powerMod(base, exp, mod)` (R81). -/
def powerModLines (base exp mod : Word) : List HostLine :=
  [.wr idxArg0 base, .wr idxArg1 exp, .wr idxArg2 mod] ++ callLines .modexp

/-- `gcd(a, b)` (R81). -/
def gcdLines (a b : Word) : List HostLine :=
  [.wr idxArg0 a, .wr idxArg1 b] ++ callLines .gcd

/-- `newGenerator(N, seed)` (R81). -/
def newGeneratorLines (n seed : Word) : List HostLine :=
  [.wr idxArg0 n, .wr idxArg1 seed] ++ callLines .bbsInit

/-- `nextBit(handle)` (R81). -/
def nextBitLines : List HostLine := callLines .bbsNext

/-- `bitSequence(length)` (R81, R142). -/
def bitSequenceLines (n : Nat) : List HostLine := [.bitseq n []]

/-- `SQRMOD x, n` (R146): MODEXP with exponent 2. -/
def sqrmodLines (x n : Word) : List HostLine := powerModLines x 2 n

/-- The value of the host's newest read of index `i`; 0 when there is none, which no CALL meets (log entry 8). -/
def lastRead (i : RegIndex) (s : State) : Word :=
  match s.reads.find? (fun r => r.index == i) with
  | some r => r.value
  | none => 0

/-- The pair of a CALL: "ERR = bits 7 to 4 of the last STATUS value, RESULT value" (R80). -/
def callPair (s : State) : CallResult where
  err := errOf (lastRead idxStatus s)
  result := lastRead idxResult s

/-- A CALL yields its pair (R80). -/
def yieldCall (s : State) : State := { s with calls := callPair s :: s.calls }

/-- The bit of a BBS_NEXT call, `r[0]` (R142). -/
def bitOf (r : Word) : Bool := r.getLsbD 0

/-- A BITSEQ returns (R142). -/
def returnBitseq (r : BitseqResult) (s : State) : State := { s with bitseqs := r :: s.bitseqs }

/-- What the host does after a call of a BITSEQ (R142): `if err != 0 then return error err; append r[0] to out`, and on
to the `n` calls left. -/
def afterBit (n : Nat) (out : List Bool) (pair : CallResult) (rest : List HostLine) (s : State) : State :=
  if pair.err = 0 then setLines (.bitseq n (out ++ [bitOf pair.result]) :: rest) s
  else returnBitseq (.error pair.err) (setLines rest s)

end Sys2Proof.Machine
end

