-- ==== Sys2Proof/Machine/Agents.lean ====
section
/-! DEFINITION. The two agents (R14): the CORE step (R30), the host transactions (R54, R55) and lines (R80), and whose turn it is (R58, R202). -/

namespace Sys2Proof.Machine

/-- The CORE step of the present PHASE (R30). An idle CORE has no step: the turn passes and nothing changes. -/
def coreStep (s : State) : Host.Outcome State Fault Refusal :=
  match s.phase with
  | .idle => .next s
  | .mxLoop => mxLoopStep s
  | .gcdLoop => gcdLoopStep s
  | .initGcd => initGcdStep s
  | .bbsSq => bbsSqStep s

/-- A write of `w` to CMD (R55, R75): a legal word is its command, every other word raises IllegalCommand (R74, R177).
That a busy block drops the word, legal or not, is in `issue` (R76). -/
def writeCmd (w : Word) (s : State) : Host.Outcome State Fault Refusal :=
  match decode w with
  | .ok i => exec i s
  | .error _ => .next (issue (raise .illegalCommand) s)

/-- `RegWrite(i, v)` (R55). Writes to STATUS, RESULT and the reserved indices are ignored (R25, R27, R39). -/
def regWrite (i : RegIndex) (v : Word) (s : State) : Host.Outcome State Fault Refusal :=
  match slotOf i with
  | .arg0 => .next (setArg0 v s)
  | .arg1 => .next (setArg1 v s)
  | .arg2 => .next (setArg2 v s)
  | .cmd => writeCmd v s
  | .status => .next s
  | .result => .next s
  | .reserved => .next s

/-- The host issues its next line (R80). With no line left it does nothing (R17; log entry 4). A WAIT whose STATUS
read shows BUSY stays the next line. The last four kinds of line are no transactions (log entry 8). -/
def hostStep (s : State) : Host.Outcome State Fault Refusal :=
  match s.lines with
  | [] => .next s
  | .wr i v :: rest => regWrite i v (setLines rest s)
  | .rd i :: rest => .next (recordRead i (setLines rest s))
  | .wait :: rest =>
    if busyOf (regRead idxStatus s) then .next (recordRead idxStatus s)
    else .next (recordRead idxStatus (setLines rest s))
  | .yieldPair :: rest => .next (yieldCall (setLines rest s))
  | .bitseq 0 out :: rest => .next (returnBitseq (.bits out) (setLines rest s))
  | .bitseq (n + 1) out :: rest => .next (setLines (callLines .bbsNext ++ .bitseqRest n out :: rest) s)
  | .bitseqRest n out :: rest => .next (afterBit n out (callPair s) rest s)

/-- Whose event comes next: what the schedule says, and with no schedule left a busy CORE (so it is never starved,
R202) and else the host (log entry 3). -/
def nextTurn (s : State) : Turn :=
  match s.turns with
  | t :: _ => t
  | [] => if s.phase = .idle then .host else .core

/-- One event (R58). -/
def runTurn (t : Turn) (s : State) : Host.Outcome State Fault Refusal :=
  match t with
  | .host => hostStep s
  | .core => coreStep s
  | .reset => .next (resetEvent s)

end Sys2Proof.Machine
end

