-- ==== Sys2Proof/Machine/Step.lean ====
section
/-! DEFINITION. One step of the machine: one atomic event of one agent (R58), and the placing of a command word for the next step. -/

namespace Sys2Proof.Machine

/-- The next event, performed. -/
def step (s : State) : Host.Outcome State Fault Refusal := runTurn (nextTurn s) (dropTurn s)

/-- `s` with the word placed so that the very next step is its CMD write and runs it: the host's next line writes it,
the next turn is the host's, and no command is running (a busy block would drop the word, R76). Log entry 2. -/
def State.withFetchWord (s : State) (nbits w : Nat) : State :=
  { s with
    phase := .idle
    lines := .wr idxCmd (BitVec.ofNat 64 (w % 2 ^ nbits)) :: s.lines
    turns := .host :: s.turns }

end Sys2Proof.Machine
end

