-- ==== Sys2Proof/Safety.lean ====
section
/-! DEFINITION. What statements about PKCORE are said with: the invariant of its states (R28, R32, R36), sameness of parts of the state, runs of CORE steps alone, and the bit stream. -/

namespace Sys2Proof.Machine

/-- What the machine answered, as an optional next state. -/
def nextState? : Host.Outcome State Fault Refusal → Option State
  | .next s => some s
  | .fault _ => none
  | .refused _ => none

/-- `bitlen(v)`, the least `n` with `v < 2^n` (R10). -/
def bitlen (v : Word) : Nat := Nat.size v.toNat

/-- `n` CORE steps and nothing else, stopping where one stops. -/
def coreRun : Nat → State → Host.Outcome State Fault Refusal
  | 0, s => .next s
  | n + 1, s =>
    match coreStep s with
    | .next t => coreRun n t
    | .fault r => .fault r
    | .refused r => .refused r

/-- `k` steps of the machine (Host/Core.lean's run of `Sys2Proof.core`). -/
def runSteps (k : Nat) (s : State) : Host.Outcome State Fault Refusal := Host.Core.run Sys2Proof.core k s

/-- One BBS_NEXT and its CORE step. -/
def nextBit (s : State) : Host.Outcome State Fault Refusal :=
  match exec .bbsNext s with
  | .next t => coreRun 1 t
  | .fault r => .fault r
  | .refused r => .refused r

/-- `k` times BBS_NEXT, each with its CORE step. -/
def nextBits : Nat → State → Host.Outcome State Fault Refusal
  | 0, s => .next s
  | k + 1, s =>
    match nextBit s with
    | .next t => nextBits k t
    | .fault r => .fault r
    | .refused r => .refused r

/-- ARG0, ARG1, ARG2 agree. -/
@[simp] abbrev SameOperands (s t : State) : Prop := t.arg0 = s.arg0 ∧ t.arg1 = s.arg1 ∧ t.arg2 = s.arg2

/-- The generator (BBS_N, BBS_STATE, BBS_VALID) agrees. -/
@[simp] abbrev SameGenerator (s t : State) : Prop :=
  t.bbsN = s.bbsN ∧ t.bbsState = s.bbsState ∧ t.bbsValid = s.bbsValid

/-- The MODEXP working registers agree. -/
@[simp] abbrev SameModexpUnit (s t : State) : Prop :=
  t.mxR = s.mxR ∧ t.mxB = s.mxB ∧ t.mxE = s.mxE ∧ t.mxM = s.mxM

/-- The GCD working registers agree. -/
@[simp] abbrev SameGcdUnit (s t : State) : Prop := t.gcdA = s.gcdA ∧ t.gcdB = s.gcdB

/-- The host's and the model's own data agree. -/
@[simp] abbrev SameHost (s t : State) : Prop :=
  t.lines = s.lines ∧ t.turns = s.turns ∧ t.reads = s.reads ∧ t.calls = s.calls ∧ t.bitseqs = s.bitseqs ∧
  t.draws = s.draws

/-- Everything the running command works on and reports by agrees: all of the block but the ARG registers and OVR. -/
@[simp] abbrev SameCommand (s t : State) : Prop :=
  t.phase = s.phase ∧ t.result = s.result ∧ t.done = s.done ∧ t.err = s.err ∧ t.acc = s.acc ∧
  SameGenerator s t ∧ SameModexpUnit s t ∧ SameGcdUnit s t

/-- Everything a host transaction can return agrees (R38): ARG0 to ARG2, RESULT, the stored flags and BUSY. -/
@[simp] abbrev SameVisible (s t : State) : Prop :=
  SameOperands s t ∧ t.result = s.result ∧ t.done = s.done ∧ t.bbsValid = s.bbsValid ∧ t.ovr = s.ovr ∧
  t.err = s.err ∧ busy t = busy s

/-- The next event is the host's write of BBS_INIT's word into an idle block: a BBS_INIT accept (R122). -/
@[simp] abbrev AcceptsBbsInit (s : State) : Prop :=
  nextTurn s = .host ∧ s.phase = .idle ∧ s.lines.head? = some (.wr idxCmd (encode .bbsInit))

/-- A BBS_INIT accept that passes its range checks (R122, R130). -/
@[simp] abbrev AcceptsValidRange (s : State) : Prop :=
  AcceptsBbsInit s ∧ 2 ≤ s.arg1.toNat ∧ s.arg1.toNat + 2 ≤ s.arg0.toNat

/-- R32 without its congruence: while MX_LOOP runs. -/
@[simp] abbrev ModexpInv (s : State) : Prop :=
  s.phase = .mxLoop →
    2 ≤ s.mxM.toNat ∧ s.mxR.toNat < s.mxM.toNat ∧ s.mxB.toNat < s.mxM.toNat

/-- R36: while the generator is valid. -/
@[simp] abbrev GeneratorInv (s : State) : Prop :=
  s.bbsValid = true →
    5 ≤ s.bbsN.toNat ∧ 0 < s.bbsState.toNat ∧ s.bbsState.toNat < s.bbsN.toNat ∧
    Nat.gcd s.bbsState.toNat s.bbsN.toNat = 1

/-- While INIT_GCD runs (R122, R123): no generator is valid, the candidate passed its range checks, and Euclid's pair
has the candidate's greatest common divisor. -/
@[simp] abbrev ConstructionInv (s : State) : Prop :=
  s.phase = .initGcd →
    s.bbsValid = false ∧ 2 ≤ s.bbsState.toNat ∧ s.bbsState.toNat + 2 ≤ s.bbsN.toNat ∧
    Nat.gcd s.gcdA.toNat s.gcdB.toNat = Nat.gcd s.bbsState.toNat s.bbsN.toNat

/-- While BBS_SQ runs the generator is valid (R125). -/
@[simp] abbrev SquaringInv (s : State) : Prop := s.phase = .bbsSq → s.bbsValid = true

/-- While a command runs, DONE is 0 and ERR reads 0 (R28, R195). -/
@[simp] abbrev BusyInv (s : State) : Prop := s.phase ≠ .idle → s.done = false ∧ s.err = 0

/-- ERR holds 0 or one of the four codes the block raises (R171, R178); with an error RESULT is 0 and the block is
idle and done (R176). -/
@[simp] abbrev ErrorInv (s : State) : Prop :=
  s.err = 0 ∨
    ((s.err = 1 ∨ s.err = 4 ∨ s.err = 5 ∨ s.err = 6) ∧ s.result = 0 ∧ s.done = true ∧ s.phase = .idle)

/-- BUSY and DONE "are both 0 after reset and after nothing else" (R28): then the block holds its reset values. -/
@[simp] abbrev FreshInv (s : State) : Prop :=
  s.phase = .idle → s.done = false →
    s.result = 0 ∧ s.err = 0 ∧ s.ovr = false ∧ s.bbsValid = false ∧ s.bbsN = 0 ∧ s.bbsState = 0

/-- The invariant of PKCORE's states. -/
abbrev StateInv (s : State) : Prop :=
  ModexpInv s ∧ GeneratorInv s ∧ ConstructionInv s ∧ SquaringInv s ∧ BusyInv s ∧ ErrorInv s ∧ FreshInv s

end Sys2Proof.Machine
end

