-- ==== Sys2Proof/Certificates/Slice0/Obligations.lean ====
section
/-! DEFINITION. The statements for the provers. Each docstring names the rules of spec/ it formalises. -/

open Sys2Proof Sys2Proof.Machine

/-! ## Decoding -/

/-- R74: the legal words are exactly 1, 2, 3, 4, and each is the command R73 gives it; every other word is rejected,
one with a non-zero bit 63 to 8 for its reserved bits, any other for its opcode. -/
def Obligations.DecodeAcceptsExactlyTheFourWords : Prop :=
  ∀ w : Word,
    (decode w = .ok .modexp ↔ w.toNat = 1) ∧ (decode w = .ok .gcd ↔ w.toNat = 2) ∧
    (decode w = .ok .bbsInit ↔ w.toNat = 3) ∧ (decode w = .ok .bbsNext ↔ w.toNat = 4) ∧
    (decode w = .error .reservedBits ↔ 256 ≤ w.toNat) ∧
    (decode w = .error .reservedOpcode ↔ w.toNat = 0 ∨ (5 ≤ w.toNat ∧ w.toNat < 256))

/-- R73, R79, R52: decoding and encoding agree in both directions, for words and for the 8 bytes of a register. -/
def Obligations.DecodeAndEncodeAgree : Prop :=
  ∀ i : Instr, i.wellFormed = true →
    (∀ w : Word, decode w = .ok i ↔ w = encode i) ∧
    (∀ bs : List Byte, decodeBytes bs = .ok i ↔ bs = encodeBytes i)

/-- Words written out from the table of R73 and from the vectors D1 to D6. -/
def Obligations.SampleWordsDecode : Prop :=
  decode 0x0000000000000001 = .ok .modexp ∧ decode 0x0000000000000002 = .ok .gcd ∧
  decode 0x0000000000000003 = .ok .bbsInit ∧ decode 0x0000000000000004 = .ok .bbsNext ∧
  decode 0x0 = .error .reservedOpcode ∧ decode 0x5 = .error .reservedOpcode ∧
  decode 0xFF = .error .reservedOpcode ∧ decode 0x101 = .error .reservedBits ∧
  decode 0x8000000000000002 = .error .reservedBits ∧ decode 0xFFFFFFFFFFFFFFFF = .error .reservedBits

/-! ## The step -/

/-- R26, R55, R75: when the next event is the host's and its next line writes CMD with the word of `i`, the step is
`exec i`, with that line and that turn used up. -/
def Obligations.StepRunsTheWrittenCommand : Prop :=
  ∀ (s : State) (w : Word) (rest : List HostLine) (i : Instr),
    nextTurn s = .host → s.lines = .wr idxCmd w :: rest → decode w = .ok i →
    step s = exec i { s with lines := rest, turns := s.turns.tail }

/-- R58, R202 and log entry 3: which agent's event a step is. A schedule names it; with none left a busy block takes a
CORE step and an idle one leaves the turn to the host. -/
def Obligations.StepIsOneEventOfOneAgent : Prop :=
  ∀ (s : State) (rest : List Turn),
    (s.turns = .core :: rest → step s = coreStep { s with turns := rest }) ∧
    (s.turns = .host :: rest → step s = hostStep { s with turns := rest }) ∧
    (s.turns = .reset :: rest → step s = .next (resetEvent { s with turns := rest })) ∧
    (s.turns = [] → s.phase ≠ .idle → step s = coreStep s) ∧
    (s.turns = [] → s.phase = .idle → step s = hostStep s)

/-! ## MODEXP -/

/-- R92: the accept step of MODEXP, for every idle state: it answers a next state; below modulus 2 the error, else the
four working registers loaded, and nothing else changed. -/
def Obligations.ModexpAccept : Prop :=
  ∀ s : State, s.phase = .idle →
    (s.arg2.toNat < 2 →
      exec .modexp s = .next { s with result := 0, err := 1, done := true }) ∧
    (2 ≤ s.arg2.toNat →
      ∃ b : Word, b.toNat = s.arg0.toNat % s.arg2.toNat ∧
        exec .modexp s = .next
          { s with done := false, err := 0, mxM := s.arg2, mxR := 1, mxB := b, mxE := s.arg1, phase := .mxLoop })

/-- R93: the CORE step in MX_LOOP, where MX_M is at least 2 (R32). All right-hand sides read the state before the step; ACC ends it with the square. -/
def Obligations.ModexpLoopStep : Prop :=
  ∀ s : State, s.phase = .mxLoop → 2 ≤ s.mxM.toNat →
    (s.mxE = 0 → coreStep s = .next { s with result := s.mxR, done := true, phase := .idle }) ∧
    (s.mxE ≠ 0 →
      ∃ (sq : Wide) (r b e : Word),
        sq.toNat = s.mxB.toNat * s.mxB.toNat ∧
        r.toNat = (if s.mxE.toNat % 2 = 1 then (s.mxR.toNat * s.mxB.toNat) % s.mxM.toNat else s.mxR.toNat) ∧
        b.toNat = (s.mxB.toNat * s.mxB.toNat) % s.mxM.toNat ∧
        e.toNat = s.mxE.toNat / 2 ∧
        coreStep s = .next { s with acc := sq, mxR := r, mxB := b, mxE := e })

/-- R95: after the accept of a MODEXP with `m >= 2`, `MX_R * MX_B^MX_E` is congruent to `base^exp` modulo MX_M = m and
both registers are below `m`; every loop step that does not complete keeps all of that; and the one that completes
leaves the residue in RESULT. -/
def Obligations.ModexpLoopKeepsTheResidue : Prop :=
  (∀ s : State, s.phase = .idle → 2 ≤ s.arg2.toNat →
    ∃ t : State, exec .modexp s = .next t ∧ t.phase = .mxLoop ∧ t.mxM = s.arg2 ∧ ModexpInv t ∧
      (t.mxR.toNat * t.mxB.toNat ^ t.mxE.toNat) % t.mxM.toNat =
        s.arg0.toNat ^ s.arg1.toNat % s.arg2.toNat) ∧
  (∀ s t : State, s.phase = .mxLoop → ModexpInv s → coreStep s = .next t →
    (t.phase = .mxLoop ∧ t.mxM = s.mxM ∧ ModexpInv t ∧
      (t.mxR.toNat * t.mxB.toNat ^ t.mxE.toNat) % s.mxM.toNat =
        (s.mxR.toNat * s.mxB.toNat ^ s.mxE.toNat) % s.mxM.toNat) ∨
    (t.phase = .idle ∧ t.done = true ∧
      t.result.toNat = (s.mxR.toNat * s.mxB.toNat ^ s.mxE.toNat) % s.mxM.toNat))

/-- R91: from every idle state MODEXP with `mod >= 2` ends without error and leaves the exact power's remainder in
RESULT; it takes the `bitlen(exp) + 1` CORE steps of R98 (busy before the last of them), and leaves the operands, the
generator, the GCD unit, OVR and the host alone (R94). With `mod < 2` it ends in the accept with InvalidModulus and
RESULT = 0. -/
def Obligations.ModexpComputesThePower : Prop :=
  ∀ s : State, s.phase = .idle →
    (2 ≤ s.arg2.toNat →
      ∃ t u : State, exec .modexp s = .next t ∧ coreRun (bitlen s.arg1 + 1) t = .next u ∧
        (∀ j, j ≤ bitlen s.arg1 → ∃ r : State, coreRun j t = .next r ∧ r.phase = .mxLoop) ∧
        u.result.toNat = s.arg0.toNat ^ s.arg1.toNat % s.arg2.toNat ∧ u.result.toNat < s.arg2.toNat ∧
        u.done = true ∧ u.err = 0 ∧ u.phase = .idle ∧
        SameOperands s u ∧ SameGenerator s u ∧ SameGcdUnit s u ∧ u.ovr = s.ovr ∧ SameHost s u) ∧
    (s.arg2.toNat < 2 →
      ∃ t : State, exec .modexp s = .next t ∧ t.result = 0 ∧ t.err = 1 ∧ t.done = true ∧ t.phase = .idle)

/-! ## GCD -/

/-- R112: the accept step of GCD, for every idle state. -/
def Obligations.GcdAccept : Prop :=
  ∀ s : State, s.phase = .idle →
    exec .gcd s = .next { s with done := false, err := 0, gcdA := s.arg0, gcdB := s.arg1, phase := .gcdLoop }

/-- R113: the CORE step in GCD_LOOP. -/
def Obligations.GcdLoopStep : Prop :=
  ∀ s : State, s.phase = .gcdLoop →
    (s.gcdB = 0 → coreStep s = .next { s with result := s.gcdA, done := true, phase := .idle }) ∧
    (s.gcdB ≠ 0 →
      ∃ r : Word, r.toNat = s.gcdA.toNat % s.gcdB.toNat ∧
        coreStep s = .next { s with gcdA := s.gcdB, gcdB := r })

/-- R111: from every idle state and for all operands GCD ends without error with the greatest common divisor in
RESULT, after `n + 1` CORE steps with `n <= 129` (R116's bound that needs no theory), and touches nothing but its own
unit, RESULT, DONE and ERR. -/
def Obligations.GcdComputesTheGreatestCommonDivisor : Prop :=
  ∀ s : State, s.phase = .idle →
    ∃ (t u : State) (n : Nat), exec .gcd s = .next t ∧ n ≤ 129 ∧ coreRun (n + 1) t = .next u ∧
      (∀ j, j ≤ n → ∃ r : State, coreRun j t = .next r ∧ r.phase = .gcdLoop) ∧
      u.result.toNat = Nat.gcd s.arg0.toNat s.arg1.toNat ∧
      u.done = true ∧ u.err = 0 ∧ u.phase = .idle ∧
      SameOperands s u ∧ SameGenerator s u ∧ SameModexpUnit s u ∧ u.acc = s.acc ∧ u.ovr = s.ovr ∧ SameHost s u

/-! ## BBS -/

/-- R122, R179: the accept step of BBS_INIT, for every idle state: the modulus check, then the range check, then the
load; BBS_VALID is 0 in every case. -/
def Obligations.BbsInitAccept : Prop :=
  ∀ s : State, s.phase = .idle →
    (s.arg0.toNat < 2 →
      exec .bbsInit s = .next { s with bbsValid := false, result := 0, err := 1, done := true }) ∧
    (2 ≤ s.arg0.toNat → s.arg1.toNat < 2 ∨ s.arg0.toNat < s.arg1.toNat + 2 →
      exec .bbsInit s = .next { s with bbsValid := false, result := 0, err := 4, done := true }) ∧
    (2 ≤ s.arg1.toNat → s.arg1.toNat + 2 ≤ s.arg0.toNat →
      exec .bbsInit s = .next
        { s with
          bbsValid := false, done := false, err := 0, bbsN := s.arg0, bbsState := s.arg1
          gcdA := s.arg1, gcdB := s.arg0, phase := .initGcd })

/-- R123: the CORE step in INIT_GCD. -/
def Obligations.BbsInitCoprimalityStep : Prop :=
  ∀ s : State, s.phase = .initGcd →
    (s.gcdB = 0 → s.gcdA = 1 →
      coreStep s = .next { s with bbsValid := true, result := 0, done := true, phase := .idle }) ∧
    (s.gcdB = 0 → s.gcdA ≠ 1 →
      coreStep s = .next { s with result := 0, err := 4, done := true, phase := .idle }) ∧
    (s.gcdB ≠ 0 →
      ∃ r : Word, r.toNat = s.gcdA.toNat % s.gcdB.toNat ∧
        coreStep s = .next { s with gcdA := s.gcdB, gcdB := r })

/-- R122, R123, R173: the whole of BBS_INIT on a modulus of at least 2 and a seed in `[2, N - 2]`: after `n + 1` CORE
steps (`n <= 129`) the generator is valid and holds `(N, seed)` exactly when the two are coprime; otherwise the command
ends with InvalidSeed and no generator. RESULT is 0 in both cases. -/
def Obligations.BbsInitBuildsTheGenerator : Prop :=
  ∀ s : State, s.phase = .idle → 2 ≤ s.arg1.toNat → s.arg1.toNat + 2 ≤ s.arg0.toNat →
    ∃ (t u : State) (n : Nat), exec .bbsInit s = .next t ∧ n ≤ 129 ∧ coreRun (n + 1) t = .next u ∧
      u.phase = .idle ∧ u.done = true ∧ u.result = 0 ∧ u.bbsN = s.arg0 ∧ u.bbsState = s.arg1 ∧
      (Nat.gcd s.arg1.toNat s.arg0.toNat = 1 → u.bbsValid = true ∧ u.err = 0) ∧
      (Nat.gcd s.arg1.toNat s.arg0.toNat ≠ 1 → u.bbsValid = false ∧ u.err = 4) ∧
      SameOperands s u ∧ SameModexpUnit s u ∧ u.acc = s.acc ∧ u.ovr = s.ovr ∧ SameHost s u

/-- R125: the accept step of BBS_NEXT, for every idle state. -/
def Obligations.BbsNextAccept : Prop :=
  ∀ s : State, s.phase = .idle →
    (s.bbsValid = true → exec .bbsNext s = .next { s with done := false, err := 0, phase := .bbsSq }) ∧
    (s.bbsValid = false → exec .bbsNext s = .next { s with result := 0, err := 5, done := true })

/-- R126: the CORE step in BBS_SQ. The bit is that of the state after the update. BBS_N is not 0 there: R36, the
invariant of StepKeepsTheInvariant. -/
def Obligations.BbsSquaringStep : Prop :=
  ∀ s : State, s.phase = .bbsSq → s.bbsN ≠ 0 →
    ∃ (sq : Wide) (x b : Word),
      sq.toNat = s.bbsState.toNat * s.bbsState.toNat ∧
      x.toNat = (s.bbsState.toNat * s.bbsState.toNat) % s.bbsN.toNat ∧ b.toNat = x.toNat % 2 ∧
      coreStep s = .next { s with acc := sq, bbsState := x, result := b, done := true, phase := .idle }

/-- R120, R124, R131: the whole of BBS_NEXT on a valid generator: one CORE step after the accept, the state squared
modulo BBS_N, its low bit in RESULT, and the operands, the modulus, the other units, OVR and the host alone. BBS_N is
not 0 where BBS_VALID is 1: R36, the invariant of StepKeepsTheInvariant. -/
def Obligations.BbsNextEmitsTheLowBit : Prop :=
  ∀ s : State, s.phase = .idle → s.bbsValid = true → s.bbsN ≠ 0 →
    ∃ t u : State, exec .bbsNext s = .next t ∧ coreRun 1 t = .next u ∧ t.phase = .bbsSq ∧
      u.bbsState.toNat = s.bbsState.toNat ^ 2 % s.bbsN.toNat ∧ u.result.toNat = u.bbsState.toNat % 2 ∧
      u.done = true ∧ u.err = 0 ∧ u.phase = .idle ∧ u.bbsN = s.bbsN ∧ u.bbsValid = true ∧
      SameOperands s u ∧ SameModexpUnit s u ∧ SameGcdUnit s u ∧ u.ovr = s.ovr ∧ SameHost s u

/-- R128: after a successful BBS_INIT(N, seed), the `k`-th following BBS_NEXT leaves `seed^(2^k) mod N` in BBS_STATE
and its bit 0 in RESULT; the stream is a function of `(N, seed)` alone. -/
def Obligations.BitStreamIsTheRepeatedSquare : Prop :=
  ∀ (s : State) (k : Nat), s.phase = .idle → 2 ≤ s.arg1.toNat → s.arg1.toNat + 2 ≤ s.arg0.toNat →
    Nat.gcd s.arg1.toNat s.arg0.toNat = 1 → 1 ≤ k →
    ∃ (t u v : State) (n : Nat), exec .bbsInit s = .next t ∧ coreRun n t = .next u ∧ nextBits k u = .next v ∧
      v.bbsState.toNat = s.arg1.toNat ^ (2 ^ k) % s.arg0.toNat ∧ v.result.toNat = v.bbsState.toNat % 2 ∧
      v.bbsN = s.arg0 ∧ v.bbsValid = true ∧ v.phase = .idle ∧ v.done = true ∧ v.err = 0

/-- R130: what may change the generator. In one step other than RESET, BBS_N changes only at a BBS_INIT accept that
passes its range checks, to ARG0; BBS_STATE changes only there, to ARG1, or in the squaring step; a valid generator ends
only at a BBS_INIT accept; and a generator becomes valid only in the INIT_GCD step that finds the gcd 1. -/
def Obligations.GeneratorLifetime : Prop :=
  ∀ s t : State, step s = .next t → nextTurn s ≠ .reset →
    (t.bbsN ≠ s.bbsN → AcceptsValidRange s ∧ t.bbsN = s.arg0) ∧
    (t.bbsState ≠ s.bbsState →
      (AcceptsValidRange s ∧ t.bbsState = s.arg1) ∨ (nextTurn s = .core ∧ s.phase = .bbsSq)) ∧
    (s.bbsValid = true → t.bbsValid = false → AcceptsBbsInit s) ∧
    (s.bbsValid = false → t.bbsValid = true →
      nextTurn s = .core ∧ s.phase = .initGcd ∧ s.gcdB = 0 ∧ s.gcdA = 1)

/-! ## Errors and flags -/

/-- R177: a word other than 1, 2, 3, 4 raises IllegalCommand in an idle block, changing RESULT, ERR and DONE only; a
busy block drops it, which raises nothing and sets OVR. -/
def Obligations.IllegalWordRaises : Prop :=
  ∀ (s : State) (w : Word), w.toNat = 0 ∨ 5 ≤ w.toNat →
    (s.phase = .idle → regWrite idxCmd w s = .next { s with result := 0, err := 6, done := true }) ∧
    (s.phase ≠ .idle → regWrite idxCmd w s = .next { s with ovr := true })

/-- R76: a CMD write while a command runs is dropped whatever its value, sets OVR and changes nothing else; and OVR,
once set, is cleared by RESET only. -/
def Obligations.BusyBlockDropsTheWord : Prop :=
  (∀ (s : State) (w : Word), s.phase ≠ .idle → regWrite idxCmd w s = .next { s with ovr := true }) ∧
  (∀ (s : State) (i : Instr), s.phase ≠ .idle → exec i s = .next { s with ovr := true }) ∧
  (∀ s t : State, s.ovr = true → step s = .next t → nextTurn s ≠ .reset → t.ovr = true)

/-- R75: every CMD write in an idle block is accepted; it ends at once with an error, or leaves the block busy with
DONE and ERR clear and RESULT as it was. -/
def Obligations.AcceptEndsOrStarts : Prop :=
  ∀ (s : State) (w : Word), s.phase = .idle →
    ∃ t : State, regWrite idxCmd w s = .next t ∧
      ((busy t = false ∧ t.done = true ∧ t.err ≠ 0 ∧ t.result = 0) ∨
       (busy t = true ∧ t.done = false ∧ t.err = 0 ∧ t.result = s.result))

/-- R171, R178: a step leaves ERR as it was or writes 0, 1, 4, 5 or 6; codes 2, 3 and 7 to 15 are never produced. -/
def Obligations.StepProducesOnlyTheListedErrorCodes : Prop :=
  ∀ s t : State, step s = .next t →
    t.err = s.err ∨ t.err = 0 ∨ ((t.err = 1 ∨ t.err = 4 ∨ t.err = 5 ∨ t.err = 6) ∧ t.result = 0 ∧ t.done = true)

/-- R27: STATUS is assembled from the flags: its value, each field, and the zero bits 63 to 8; a read of it has no side
effect on the block and a write to it is ignored. -/
def Obligations.StatusIsTheFlags : Prop :=
  ∀ s : State,
    (regRead idxStatus s).toNat =
      (busy s).toNat + 2 * s.done.toNat + 4 * s.bbsValid.toNat + 8 * s.ovr.toNat + 16 * s.err.toNat ∧
    (busy s = true ↔ s.phase ≠ .idle) ∧
    (regRead idxStatus s).getLsbD 0 = busy s ∧ (regRead idxStatus s).getLsbD 1 = s.done ∧
    (regRead idxStatus s).getLsbD 2 = s.bbsValid ∧ (regRead idxStatus s).getLsbD 3 = s.ovr ∧
    (regRead idxStatus s).extractLsb' 4 4 = s.err ∧ (regRead idxStatus s).extractLsb' 8 56 = 0 ∧
    recordRead idxStatus s = { s with reads := ⟨idxStatus, regRead idxStatus s⟩ :: s.reads } ∧
    (∀ v : Word, regWrite idxStatus v s = .next s)

/-! ## Host transactions -/

/-- R54: `RD` of every index returns the value R54 lists, and changes nothing but the host's record of it. -/
def Obligations.RegReadReturnsTheMap : Prop :=
  ∀ (s : State) (i : RegIndex) (rest : List HostLine), s.lines = .rd i :: rest →
    ∃ v : Word, hostStep s = .next { s with lines := rest, reads := ⟨i, v⟩ :: s.reads } ∧
      (i = 0 → v = s.arg0) ∧ (i = 1 → v = s.arg1) ∧ (i = 2 → v = s.arg2) ∧ (i = 3 → v = 0) ∧
      (i = 4 → v.toNat =
        (busy s).toNat + 2 * s.done.toNat + 4 * s.bbsValid.toNat + 8 * s.ovr.toNat + 16 * s.err.toNat) ∧
      (i = 5 → v = s.result) ∧ (6 ≤ i.toNat → v = 0)

/-- R55: `WR` of every index. Index 3 is a command for an idle block and sets OVR in a busy one; 4 to 15 have no effect. -/
def Obligations.RegWriteFollowsTheMap : Prop :=
  ∀ (s : State) (i : RegIndex) (v : Word) (rest : List HostLine), s.lines = .wr i v :: rest →
    (i = 0 → hostStep s = .next { s with lines := rest, arg0 := v }) ∧
    (i = 1 → hostStep s = .next { s with lines := rest, arg1 := v }) ∧
    (i = 2 → hostStep s = .next { s with lines := rest, arg2 := v }) ∧
    (i = 3 → s.phase ≠ .idle → hostStep s = .next { s with lines := rest, ovr := true }) ∧
    (i = 3 → s.phase = .idle → ∀ c : Instr, v = encode c → hostStep s = exec c { s with lines := rest }) ∧
    (i = 3 → s.phase = .idle → (∀ c : Instr, v ≠ encode c) →
      hostStep s = .next { s with lines := rest, result := 0, err := 6, done := true }) ∧
    (4 ≤ i.toNat → hostStep s = .next { s with lines := rest })

/-- R80: WAIT reads STATUS; while the value shows BUSY it stays the host's next line, and then it is over. -/
def Obligations.WaitPollsUntilIdle : Prop :=
  ∀ (s : State) (rest : List HostLine), s.lines = .wait :: rest →
    (s.phase ≠ .idle →
      hostStep s = .next { s with reads := ⟨idxStatus, regRead idxStatus s⟩ :: s.reads }) ∧
    (s.phase = .idle →
      hostStep s = .next { s with lines := rest, reads := ⟨idxStatus, regRead idxStatus s⟩ :: s.reads })

/-- R80, R142 and log entry 8 (that these are host turns of their own is the model's choice): `BITSEQ` with no call
left returns the bits collected; with `n + 1` left it is one CALL BBS_NEXT and a test; and the test, on the pair
(ERR, RESULT) just read, appends bit 0 of RESULT and goes on with `n`, or at a non-zero ERR returns that error. -/
def Obligations.BitseqCallsBbsNext : Prop :=
  ∀ (s : State) (n : Nat) (out : List Bool) (rest : List HostLine),
    (s.lines = .bitseq 0 out :: rest →
      hostStep s = .next { s with lines := rest, bitseqs := .bits out :: s.bitseqs }) ∧
    (s.lines = .bitseq (n + 1) out :: rest →
      hostStep s = .next
        { s with lines := .wr 3 4 :: .wait :: .rd 4 :: .rd 5 :: .yieldPair :: .bitseqRest n out :: rest }) ∧
    (∀ (r v : Word) (older : List ReadRecord), s.lines = .bitseqRest n out :: rest →
      s.reads = ⟨5, r⟩ :: ⟨4, v⟩ :: older →
      (v.extractLsb' 4 4 = (0 : ErrCode) →
        hostStep s = .next { s with lines := .bitseq n (out ++ [r.getLsbD 0]) :: rest }) ∧
      (v.extractLsb' 4 4 ≠ (0 : ErrCode) →
        hostStep s = .next { s with lines := rest, bitseqs := .error (v.extractLsb' 4 4) :: s.bitseqs }))

/-- R38: what a read returns depends on ARG0 to ARG2, RESULT, the flags and BUSY alone: two blocks that agree there
answer every read alike, whatever their working registers, ACC, generator and (busy) PHASE hold. -/
def Obligations.PrivateStateIsUnreadable : Prop :=
  ∀ (s t : State) (i : RegIndex), SameVisible s t → regRead i t = regRead i s

/-- R22 to R24: ARG0, ARG1 and ARG2 change in a step only at RESET or by the host's write of that register, to the
value written. -/
def Obligations.OperandsChangeOnlyByHostWrites : Prop :=
  ∀ s t : State, step s = .next t → nextTurn s ≠ .reset →
    (t.arg0 ≠ s.arg0 → nextTurn s = .host ∧ s.lines.head? = some (.wr idxArg0 t.arg0)) ∧
    (t.arg1 ≠ s.arg1 → nextTurn s = .host ∧ s.lines.head? = some (.wr idxArg1 t.arg1)) ∧
    (t.arg2 ≠ s.arg2 → nextTurn s = .host ∧ s.lines.head? = some (.wr idxArg2 t.arg2))

/-! ## Sequencing, frames, interleaving -/

/-- R30: PHASE leaves IDLE only in the accept of a legal command word, and returns to IDLE only in a completing CORE
step, which sets DONE, or at RESET; otherwise it does not change. R30 gives an idle CORE no step; that a CORE turn of
an idle block answers the same state, the first clause, is the model's choice (log entry 4). -/
def Obligations.PhaseChangesOnlyAsListed : Prop :=
  (∀ s : State, s.phase = .idle → coreStep s = .next s) ∧
  (∀ s t : State, step s = .next t → nextTurn s ≠ .reset → t.phase ≠ s.phase →
    (s.phase = .idle ∧ nextTurn s = .host ∧ ∃ c : Instr, s.lines.head? = some (.wr idxCmd (encode c))) ∨
    (s.phase ≠ .idle ∧ nextTurn s = .core ∧ t.phase = .idle ∧ t.done = true))

/-- R42 and R28, the frame of the four accepts: what an accept by an idle block leaves unchanged. The operands, OVR,
ACC and the host's data always; the MODEXP registers but for MODEXP; the GCD registers but for GCD and BBS_INIT; the
generator but for BBS_INIT; RESULT unless the accept raises. -/
def Obligations.AcceptFrame : Prop :=
  ∀ (i : Instr) (s t : State), s.phase = .idle → exec i s = .next t →
    SameOperands s t ∧ t.ovr = s.ovr ∧ t.acc = s.acc ∧ SameHost s t ∧
    (i ≠ .modexp → SameModexpUnit s t) ∧ (i ≠ .gcd → i ≠ .bbsInit → SameGcdUnit s t) ∧
    (i ≠ .bbsInit → SameGenerator s t) ∧ (t.err = 0 → t.result = s.result) ∧
    (t.err ≠ 0 → SameModexpUnit s t ∧ SameGcdUnit s t ∧ t.bbsN = s.bbsN ∧ t.bbsState = s.bbsState)

/-- R42 and R25, the frame of a CORE step: what it leaves unchanged, unit by unit; RESULT, DONE and ERR change only in
the step that ends the command. -/
def Obligations.CoreStepFrame : Prop :=
  ∀ s t : State, coreStep s = .next t →
    SameOperands s t ∧ t.ovr = s.ovr ∧ SameHost s t ∧ t.bbsN = s.bbsN ∧
    (s.phase ≠ .mxLoop → SameModexpUnit s t) ∧
    (s.phase ≠ .gcdLoop → s.phase ≠ .initGcd → SameGcdUnit s t) ∧
    (s.phase ≠ .mxLoop → s.phase ≠ .bbsSq → t.acc = s.acc) ∧
    (s.phase ≠ .bbsSq → t.bbsState = s.bbsState) ∧ (s.phase ≠ .initGcd → t.bbsValid = s.bbsValid) ∧
    (t.phase ≠ .idle → t.result = s.result ∧ t.done = s.done ∧ t.err = s.err)

/-- R59 (e): once a command has completed, RESULT, ERR and DONE stay until the host writes CMD again or RESET. -/
def Obligations.OutcomeStaysUntilTheNextCommand : Prop :=
  ∀ s t : State, s.phase = .idle → step s = .next t → nextTurn s ≠ .reset →
    (∀ w : Word, nextTurn s = .host → s.lines.head? ≠ some (.wr idxCmd w)) →
    t.phase = .idle ∧ t.result = s.result ∧ t.err = s.err ∧ t.done = s.done

/-- R55, R61, R76: no host event disturbs a running command: everything the command works on and reports by stays. -/
def Obligations.HostDoesNotDisturbARunningCommand : Prop :=
  ∀ s : State, s.phase ≠ .idle → ∃ t : State, hostStep s = .next t ∧ SameCommand s t

/-- R61, R58: a command's course does not depend on the interleaving. Any run of the machine without RESET, of any
schedule and any host program (as plain data of the state, and with a default turn once the schedule is used up: the
model's choice, log entry 3), that stays busy up to its last step leaves the command where some number of CORE steps
alone would have left it. -/
def Obligations.InterleavingDoesNotChangeTheCommand : Prop :=
  ∀ (k : Nat) (s t : State), Turn.reset ∉ s.turns →
    (∀ (j : Nat) (r : State), j < k → runSteps j s = .next r → r.phase ≠ .idle) →
    runSteps k s = .next t →
    ∃ (c : Nat) (u : State), c ≤ k ∧ coreRun c s = .next u ∧ SameCommand u t

/-- R16, R202: every command in progress completes: from every busy state of the invariant at most 130 CORE steps (one
more than R116's derived bound) bring the block to IDLE with DONE set, and RESULT 0 where ERR shows an error. -/
def Obligations.EveryRunningCommandCompletes : Prop :=
  ∀ s : State, StateInv s → s.phase ≠ .idle →
    ∃ (n : Nat) (u : State), n ≤ 130 ∧ coreRun n s = .next u ∧ u.phase = .idle ∧ u.done = true ∧
      (u.err = 0 ∨ (u.err = 4 ∧ u.result = 0))

/-! ## Reset and the invariant -/

/-- R190, R40: RESET, whatever PHASE is, puts every register that R40 gives a value at that value, and the first
STATUS read after it returns 0. The host's own data are not the block's (log entry 3). The same of the state after
reset. -/
def Obligations.ResetClearsTheBlock : Prop :=
  ∀ s : State, ∃ t : State, runTurn .reset s = .next t ∧
    ∀ r : State, r = t ∨ r = State.reset →
      r.arg0 = 0 ∧ r.arg1 = 0 ∧ r.arg2 = 0 ∧ r.result = 0 ∧ r.done = false ∧ r.bbsValid = false ∧
      r.ovr = false ∧ r.err = 0 ∧ r.phase = .idle ∧ r.bbsN = 0 ∧ r.bbsState = 0 ∧ regRead idxStatus r = 0

/-- R28, R32, R36: the state after reset meets the invariant. -/
def Obligations.ResetMeetsTheInvariant : Prop := StateInv State.reset

/-- R28, R32, R36, R127: every step from a state of the invariant, whoever's event it is, leads to a state of the
invariant. -/
def Obligations.StepKeepsTheInvariant : Prop :=
  ∀ s t : State, StateInv s → step s = .next t → StateInv t

/-- R12, R16: from a state of the invariant the machine always goes on: no step stops with a fault or a refusal, in
particular none reduces modulo 0. -/
def Obligations.MachineNeverStops : Prop :=
  ∀ s : State, StateInv s → ∃ t : State, step s = .next t

/-- Log entry 5 (the model's choice; R12 gives no value): the machine stops only where a MODEXP iteration or a BBS
squaring would reduce modulo 0, and then with that fault; it never refuses. -/
def Obligations.FaultOnlyForAZeroDivisor : Prop :=
  ∀ s : State,
    (∀ r : Fault, step s = .fault r ↔
      r = .zeroModulus ∧ nextTurn s = .core ∧
        ((s.phase = .mxLoop ∧ s.mxE ≠ 0 ∧ s.mxM = 0) ∨ (s.phase = .bbsSq ∧ s.bbsN = 0))) ∧
    (∀ r : Refusal, step s ≠ .refused r)

/-! ## Pseudo-instructions -/

/-- R80: the lines of `CALL <mnemonic>`, and the pair it yields: ERR is bits 7 to 4 of the STATUS value read, and the
RESULT value read. That the pair is formed in a host turn of its own is the model's choice (log entry 8). -/
def Obligations.CallYieldsItsPair : Prop :=
  (∀ i : Instr, callLines i = [.wr 3 (encode i), .wait, .rd 4, .rd 5, .yieldPair]) ∧
  (∀ (s : State) (v r : Word) (older : List ReadRecord) (rest : List HostLine),
    s.lines = .yieldPair :: rest → s.reads = ⟨5, r⟩ :: ⟨4, v⟩ :: older →
    hostStep s = .next { s with lines := rest, calls := ⟨v.extractLsb' 4 4, r⟩ :: s.calls })

/-- R80, R141: a CALL issued to an idle block, from every state of the invariant and under every schedule without
RESET: the command runs to its end, and the pair yielded is its ERR and RESULT. The command's end is where `exec` and
CORE steps alone lead (at most 130, R116's derived bound and one). Each turn of the schedule takes a step, and once it
is used up the model's default turns (log entry 3) and the host turn of log entry 8 need at most 135 more. -/
def Obligations.CallYieldsTheOutcomeOfItsCommand : Prop :=
  ∀ (s : State) (i : Instr) (rest : List HostLine),
    StateInv s → s.phase = .idle → Turn.reset ∉ s.turns →
    s.lines = .wr 3 (encode i) :: .wait :: .rd 4 :: .rd 5 :: .yieldPair :: rest →
    ∃ (t w u : State) (n k : Nat),
      exec i s = .next t ∧ n ≤ 130 ∧ coreRun n t = .next w ∧ w.phase = .idle ∧ w.done = true ∧
      k ≤ s.turns.length + 135 ∧ runSteps k s = .next u ∧
      SameCommand w u ∧ SameOperands s u ∧ u.ovr = s.ovr ∧ u.lines = rest ∧
      u.calls = ⟨w.err, w.result⟩ :: s.calls ∧ u.bitseqs = s.bitseqs

/-- R142, R128: a BITSEQ issued to an idle block, under every schedule without RESET. On a valid generator (BBS_N is
not 0 there: R36, the invariant of StepKeepsTheInvariant) it returns exactly `n` bits in call order, the `i`-th being
bit 0 of `x^(2^i) mod N` for the generator's present state `x`, and leaves the state after `n` squarings; with no
valid generator and `n` at least 1 it returns GeneratorNotReady at the first call. `BITSEQ 0` returns no bits. The
bounds count the schedule's turns and then the model's default turns and host turns (log entries 3 and 8). -/
def Obligations.BitseqReturnsTheBitsInCallOrder : Prop :=
  ∀ (s : State) (n : Nat) (rest : List HostLine),
    s.phase = .idle → Turn.reset ∉ s.turns → s.lines = .bitseq n [] :: rest →
    (s.bbsValid = true → s.bbsN ≠ 0 →
      ∃ (k : Nat) (u : State), k ≤ s.turns.length + 8 * n + 1 ∧ runSteps k s = .next u ∧
        u.phase = .idle ∧ u.lines = rest ∧
        u.bitseqs = .bits ((List.range n).map fun i =>
          decide (s.bbsState.toNat ^ 2 ^ (i + 1) % s.bbsN.toNat % 2 = 1)) :: s.bitseqs ∧
        u.bbsValid = true ∧ u.bbsN = s.bbsN ∧
        (n ≠ 0 → u.bbsState.toNat = s.bbsState.toNat ^ 2 ^ n % s.bbsN.toNat)) ∧
    (s.bbsValid = false → n ≠ 0 →
      ∃ (k : Nat) (u : State), k ≤ s.turns.length + 7 ∧ runSteps k s = .next u ∧
        u.phase = .idle ∧ u.lines = rest ∧ u.bitseqs = .error 5 :: s.bitseqs) ∧
    (n = 0 →
      ∃ (k : Nat) (u : State), k ≤ s.turns.length + 1 ∧ runSteps k s = .next u ∧
        u = { s with lines := rest, turns := u.turns, bitseqs := .bits [] :: s.bitseqs })
end

