-- ==== Sys2Proof/Laws/State.lean ====
section
/-! SUPPORT. What each update of the state does to each field, true by rfl: the model's own simp set. (The working registers after RESET are free values and have no lemma.) -/

namespace Sys2Proof.Machine

variable (s : State) (v : Word) (e : ErrKind) (i : RegIndex) (ls : List HostLine) (b : BitseqResult)

@[simp] theorem clearOutcome_arg0 : (clearOutcome s).arg0 = s.arg0 := rfl
@[simp] theorem clearOutcome_arg1 : (clearOutcome s).arg1 = s.arg1 := rfl
@[simp] theorem clearOutcome_arg2 : (clearOutcome s).arg2 = s.arg2 := rfl
@[simp] theorem clearOutcome_result : (clearOutcome s).result = s.result := rfl
@[simp] theorem clearOutcome_done : (clearOutcome s).done = false := rfl
@[simp] theorem clearOutcome_bbsValid : (clearOutcome s).bbsValid = s.bbsValid := rfl
@[simp] theorem clearOutcome_ovr : (clearOutcome s).ovr = s.ovr := rfl
@[simp] theorem clearOutcome_err : (clearOutcome s).err = 0 := rfl
@[simp] theorem clearOutcome_phase : (clearOutcome s).phase = s.phase := rfl
@[simp] theorem clearOutcome_mxR : (clearOutcome s).mxR = s.mxR := rfl
@[simp] theorem clearOutcome_mxB : (clearOutcome s).mxB = s.mxB := rfl
@[simp] theorem clearOutcome_mxE : (clearOutcome s).mxE = s.mxE := rfl
@[simp] theorem clearOutcome_mxM : (clearOutcome s).mxM = s.mxM := rfl
@[simp] theorem clearOutcome_gcdA : (clearOutcome s).gcdA = s.gcdA := rfl
@[simp] theorem clearOutcome_gcdB : (clearOutcome s).gcdB = s.gcdB := rfl
@[simp] theorem clearOutcome_acc : (clearOutcome s).acc = s.acc := rfl
@[simp] theorem clearOutcome_bbsN : (clearOutcome s).bbsN = s.bbsN := rfl
@[simp] theorem clearOutcome_bbsState : (clearOutcome s).bbsState = s.bbsState := rfl
@[simp] theorem clearOutcome_lines : (clearOutcome s).lines = s.lines := rfl
@[simp] theorem clearOutcome_turns : (clearOutcome s).turns = s.turns := rfl
@[simp] theorem clearOutcome_reads : (clearOutcome s).reads = s.reads := rfl
@[simp] theorem clearOutcome_calls : (clearOutcome s).calls = s.calls := rfl
@[simp] theorem clearOutcome_bitseqs : (clearOutcome s).bitseqs = s.bitseqs := rfl
@[simp] theorem clearOutcome_draws : (clearOutcome s).draws = s.draws := rfl

@[simp] theorem setOverrun_arg0 : (setOverrun s).arg0 = s.arg0 := rfl
@[simp] theorem setOverrun_arg1 : (setOverrun s).arg1 = s.arg1 := rfl
@[simp] theorem setOverrun_arg2 : (setOverrun s).arg2 = s.arg2 := rfl
@[simp] theorem setOverrun_result : (setOverrun s).result = s.result := rfl
@[simp] theorem setOverrun_done : (setOverrun s).done = s.done := rfl
@[simp] theorem setOverrun_bbsValid : (setOverrun s).bbsValid = s.bbsValid := rfl
@[simp] theorem setOverrun_ovr : (setOverrun s).ovr = true := rfl
@[simp] theorem setOverrun_err : (setOverrun s).err = s.err := rfl
@[simp] theorem setOverrun_phase : (setOverrun s).phase = s.phase := rfl
@[simp] theorem setOverrun_mxR : (setOverrun s).mxR = s.mxR := rfl
@[simp] theorem setOverrun_mxB : (setOverrun s).mxB = s.mxB := rfl
@[simp] theorem setOverrun_mxE : (setOverrun s).mxE = s.mxE := rfl
@[simp] theorem setOverrun_mxM : (setOverrun s).mxM = s.mxM := rfl
@[simp] theorem setOverrun_gcdA : (setOverrun s).gcdA = s.gcdA := rfl
@[simp] theorem setOverrun_gcdB : (setOverrun s).gcdB = s.gcdB := rfl
@[simp] theorem setOverrun_acc : (setOverrun s).acc = s.acc := rfl
@[simp] theorem setOverrun_bbsN : (setOverrun s).bbsN = s.bbsN := rfl
@[simp] theorem setOverrun_bbsState : (setOverrun s).bbsState = s.bbsState := rfl
@[simp] theorem setOverrun_lines : (setOverrun s).lines = s.lines := rfl
@[simp] theorem setOverrun_turns : (setOverrun s).turns = s.turns := rfl
@[simp] theorem setOverrun_reads : (setOverrun s).reads = s.reads := rfl
@[simp] theorem setOverrun_calls : (setOverrun s).calls = s.calls := rfl
@[simp] theorem setOverrun_bitseqs : (setOverrun s).bitseqs = s.bitseqs := rfl
@[simp] theorem setOverrun_draws : (setOverrun s).draws = s.draws := rfl

@[simp] theorem complete_arg0 : (complete s).arg0 = s.arg0 := rfl
@[simp] theorem complete_arg1 : (complete s).arg1 = s.arg1 := rfl
@[simp] theorem complete_arg2 : (complete s).arg2 = s.arg2 := rfl
@[simp] theorem complete_result : (complete s).result = s.result := rfl
@[simp] theorem complete_done : (complete s).done = true := rfl
@[simp] theorem complete_bbsValid : (complete s).bbsValid = s.bbsValid := rfl
@[simp] theorem complete_ovr : (complete s).ovr = s.ovr := rfl
@[simp] theorem complete_err : (complete s).err = s.err := rfl
@[simp] theorem complete_phase : (complete s).phase = .idle := rfl
@[simp] theorem complete_mxR : (complete s).mxR = s.mxR := rfl
@[simp] theorem complete_mxB : (complete s).mxB = s.mxB := rfl
@[simp] theorem complete_mxE : (complete s).mxE = s.mxE := rfl
@[simp] theorem complete_mxM : (complete s).mxM = s.mxM := rfl
@[simp] theorem complete_gcdA : (complete s).gcdA = s.gcdA := rfl
@[simp] theorem complete_gcdB : (complete s).gcdB = s.gcdB := rfl
@[simp] theorem complete_acc : (complete s).acc = s.acc := rfl
@[simp] theorem complete_bbsN : (complete s).bbsN = s.bbsN := rfl
@[simp] theorem complete_bbsState : (complete s).bbsState = s.bbsState := rfl
@[simp] theorem complete_lines : (complete s).lines = s.lines := rfl
@[simp] theorem complete_turns : (complete s).turns = s.turns := rfl
@[simp] theorem complete_reads : (complete s).reads = s.reads := rfl
@[simp] theorem complete_calls : (complete s).calls = s.calls := rfl
@[simp] theorem complete_bitseqs : (complete s).bitseqs = s.bitseqs := rfl
@[simp] theorem complete_draws : (complete s).draws = s.draws := rfl

@[simp] theorem completeWith_arg0 : (completeWith v s).arg0 = s.arg0 := rfl
@[simp] theorem completeWith_arg1 : (completeWith v s).arg1 = s.arg1 := rfl
@[simp] theorem completeWith_arg2 : (completeWith v s).arg2 = s.arg2 := rfl
@[simp] theorem completeWith_result : (completeWith v s).result = v := rfl
@[simp] theorem completeWith_done : (completeWith v s).done = true := rfl
@[simp] theorem completeWith_bbsValid : (completeWith v s).bbsValid = s.bbsValid := rfl
@[simp] theorem completeWith_ovr : (completeWith v s).ovr = s.ovr := rfl
@[simp] theorem completeWith_err : (completeWith v s).err = s.err := rfl
@[simp] theorem completeWith_phase : (completeWith v s).phase = .idle := rfl
@[simp] theorem completeWith_mxR : (completeWith v s).mxR = s.mxR := rfl
@[simp] theorem completeWith_mxB : (completeWith v s).mxB = s.mxB := rfl
@[simp] theorem completeWith_mxE : (completeWith v s).mxE = s.mxE := rfl
@[simp] theorem completeWith_mxM : (completeWith v s).mxM = s.mxM := rfl
@[simp] theorem completeWith_gcdA : (completeWith v s).gcdA = s.gcdA := rfl
@[simp] theorem completeWith_gcdB : (completeWith v s).gcdB = s.gcdB := rfl
@[simp] theorem completeWith_acc : (completeWith v s).acc = s.acc := rfl
@[simp] theorem completeWith_bbsN : (completeWith v s).bbsN = s.bbsN := rfl
@[simp] theorem completeWith_bbsState : (completeWith v s).bbsState = s.bbsState := rfl
@[simp] theorem completeWith_lines : (completeWith v s).lines = s.lines := rfl
@[simp] theorem completeWith_turns : (completeWith v s).turns = s.turns := rfl
@[simp] theorem completeWith_reads : (completeWith v s).reads = s.reads := rfl
@[simp] theorem completeWith_calls : (completeWith v s).calls = s.calls := rfl
@[simp] theorem completeWith_bitseqs : (completeWith v s).bitseqs = s.bitseqs := rfl
@[simp] theorem completeWith_draws : (completeWith v s).draws = s.draws := rfl

@[simp] theorem raise_arg0 : (raise e s).arg0 = s.arg0 := rfl
@[simp] theorem raise_arg1 : (raise e s).arg1 = s.arg1 := rfl
@[simp] theorem raise_arg2 : (raise e s).arg2 = s.arg2 := rfl
@[simp] theorem raise_result : (raise e s).result = 0 := rfl
@[simp] theorem raise_done : (raise e s).done = true := rfl
@[simp] theorem raise_bbsValid : (raise e s).bbsValid = s.bbsValid := rfl
@[simp] theorem raise_ovr : (raise e s).ovr = s.ovr := rfl
@[simp] theorem raise_err : (raise e s).err = errCode e := rfl
@[simp] theorem raise_phase : (raise e s).phase = .idle := rfl
@[simp] theorem raise_mxR : (raise e s).mxR = s.mxR := rfl
@[simp] theorem raise_mxB : (raise e s).mxB = s.mxB := rfl
@[simp] theorem raise_mxE : (raise e s).mxE = s.mxE := rfl
@[simp] theorem raise_mxM : (raise e s).mxM = s.mxM := rfl
@[simp] theorem raise_gcdA : (raise e s).gcdA = s.gcdA := rfl
@[simp] theorem raise_gcdB : (raise e s).gcdB = s.gcdB := rfl
@[simp] theorem raise_acc : (raise e s).acc = s.acc := rfl
@[simp] theorem raise_bbsN : (raise e s).bbsN = s.bbsN := rfl
@[simp] theorem raise_bbsState : (raise e s).bbsState = s.bbsState := rfl
@[simp] theorem raise_lines : (raise e s).lines = s.lines := rfl
@[simp] theorem raise_turns : (raise e s).turns = s.turns := rfl
@[simp] theorem raise_reads : (raise e s).reads = s.reads := rfl
@[simp] theorem raise_calls : (raise e s).calls = s.calls := rfl
@[simp] theorem raise_bitseqs : (raise e s).bitseqs = s.bitseqs := rfl
@[simp] theorem raise_draws : (raise e s).draws = s.draws := rfl

@[simp] theorem euclid_arg0 : (euclid s).arg0 = s.arg0 := rfl
@[simp] theorem euclid_arg1 : (euclid s).arg1 = s.arg1 := rfl
@[simp] theorem euclid_arg2 : (euclid s).arg2 = s.arg2 := rfl
@[simp] theorem euclid_result : (euclid s).result = s.result := rfl
@[simp] theorem euclid_done : (euclid s).done = s.done := rfl
@[simp] theorem euclid_bbsValid : (euclid s).bbsValid = s.bbsValid := rfl
@[simp] theorem euclid_ovr : (euclid s).ovr = s.ovr := rfl
@[simp] theorem euclid_err : (euclid s).err = s.err := rfl
@[simp] theorem euclid_phase : (euclid s).phase = s.phase := rfl
@[simp] theorem euclid_mxR : (euclid s).mxR = s.mxR := rfl
@[simp] theorem euclid_mxB : (euclid s).mxB = s.mxB := rfl
@[simp] theorem euclid_mxE : (euclid s).mxE = s.mxE := rfl
@[simp] theorem euclid_mxM : (euclid s).mxM = s.mxM := rfl
@[simp] theorem euclid_gcdA : (euclid s).gcdA = s.gcdB := rfl
@[simp] theorem euclid_gcdB : (euclid s).gcdB = s.gcdA % s.gcdB := rfl
@[simp] theorem euclid_acc : (euclid s).acc = s.acc := rfl
@[simp] theorem euclid_bbsN : (euclid s).bbsN = s.bbsN := rfl
@[simp] theorem euclid_bbsState : (euclid s).bbsState = s.bbsState := rfl
@[simp] theorem euclid_lines : (euclid s).lines = s.lines := rfl
@[simp] theorem euclid_turns : (euclid s).turns = s.turns := rfl
@[simp] theorem euclid_reads : (euclid s).reads = s.reads := rfl
@[simp] theorem euclid_calls : (euclid s).calls = s.calls := rfl
@[simp] theorem euclid_bitseqs : (euclid s).bitseqs = s.bitseqs := rfl
@[simp] theorem euclid_draws : (euclid s).draws = s.draws := rfl

@[simp] theorem recordRead_arg0 : (recordRead i s).arg0 = s.arg0 := rfl
@[simp] theorem recordRead_arg1 : (recordRead i s).arg1 = s.arg1 := rfl
@[simp] theorem recordRead_arg2 : (recordRead i s).arg2 = s.arg2 := rfl
@[simp] theorem recordRead_result : (recordRead i s).result = s.result := rfl
@[simp] theorem recordRead_done : (recordRead i s).done = s.done := rfl
@[simp] theorem recordRead_bbsValid : (recordRead i s).bbsValid = s.bbsValid := rfl
@[simp] theorem recordRead_ovr : (recordRead i s).ovr = s.ovr := rfl
@[simp] theorem recordRead_err : (recordRead i s).err = s.err := rfl
@[simp] theorem recordRead_phase : (recordRead i s).phase = s.phase := rfl
@[simp] theorem recordRead_mxR : (recordRead i s).mxR = s.mxR := rfl
@[simp] theorem recordRead_mxB : (recordRead i s).mxB = s.mxB := rfl
@[simp] theorem recordRead_mxE : (recordRead i s).mxE = s.mxE := rfl
@[simp] theorem recordRead_mxM : (recordRead i s).mxM = s.mxM := rfl
@[simp] theorem recordRead_gcdA : (recordRead i s).gcdA = s.gcdA := rfl
@[simp] theorem recordRead_gcdB : (recordRead i s).gcdB = s.gcdB := rfl
@[simp] theorem recordRead_acc : (recordRead i s).acc = s.acc := rfl
@[simp] theorem recordRead_bbsN : (recordRead i s).bbsN = s.bbsN := rfl
@[simp] theorem recordRead_bbsState : (recordRead i s).bbsState = s.bbsState := rfl
@[simp] theorem recordRead_lines : (recordRead i s).lines = s.lines := rfl
@[simp] theorem recordRead_turns : (recordRead i s).turns = s.turns := rfl
@[simp] theorem recordRead_reads : (recordRead i s).reads = ⟨i, regRead i s⟩ :: s.reads := rfl
@[simp] theorem recordRead_calls : (recordRead i s).calls = s.calls := rfl
@[simp] theorem recordRead_bitseqs : (recordRead i s).bitseqs = s.bitseqs := rfl
@[simp] theorem recordRead_draws : (recordRead i s).draws = s.draws := rfl

@[simp] theorem setArg0_arg0 : (setArg0 v s).arg0 = v := rfl
@[simp] theorem setArg0_arg1 : (setArg0 v s).arg1 = s.arg1 := rfl
@[simp] theorem setArg0_arg2 : (setArg0 v s).arg2 = s.arg2 := rfl
@[simp] theorem setArg0_result : (setArg0 v s).result = s.result := rfl
@[simp] theorem setArg0_done : (setArg0 v s).done = s.done := rfl
@[simp] theorem setArg0_bbsValid : (setArg0 v s).bbsValid = s.bbsValid := rfl
@[simp] theorem setArg0_ovr : (setArg0 v s).ovr = s.ovr := rfl
@[simp] theorem setArg0_err : (setArg0 v s).err = s.err := rfl
@[simp] theorem setArg0_phase : (setArg0 v s).phase = s.phase := rfl
@[simp] theorem setArg0_mxR : (setArg0 v s).mxR = s.mxR := rfl
@[simp] theorem setArg0_mxB : (setArg0 v s).mxB = s.mxB := rfl
@[simp] theorem setArg0_mxE : (setArg0 v s).mxE = s.mxE := rfl
@[simp] theorem setArg0_mxM : (setArg0 v s).mxM = s.mxM := rfl
@[simp] theorem setArg0_gcdA : (setArg0 v s).gcdA = s.gcdA := rfl
@[simp] theorem setArg0_gcdB : (setArg0 v s).gcdB = s.gcdB := rfl
@[simp] theorem setArg0_acc : (setArg0 v s).acc = s.acc := rfl
@[simp] theorem setArg0_bbsN : (setArg0 v s).bbsN = s.bbsN := rfl
@[simp] theorem setArg0_bbsState : (setArg0 v s).bbsState = s.bbsState := rfl
@[simp] theorem setArg0_lines : (setArg0 v s).lines = s.lines := rfl
@[simp] theorem setArg0_turns : (setArg0 v s).turns = s.turns := rfl
@[simp] theorem setArg0_reads : (setArg0 v s).reads = s.reads := rfl
@[simp] theorem setArg0_calls : (setArg0 v s).calls = s.calls := rfl
@[simp] theorem setArg0_bitseqs : (setArg0 v s).bitseqs = s.bitseqs := rfl
@[simp] theorem setArg0_draws : (setArg0 v s).draws = s.draws := rfl

@[simp] theorem setArg1_arg0 : (setArg1 v s).arg0 = s.arg0 := rfl
@[simp] theorem setArg1_arg1 : (setArg1 v s).arg1 = v := rfl
@[simp] theorem setArg1_arg2 : (setArg1 v s).arg2 = s.arg2 := rfl
@[simp] theorem setArg1_result : (setArg1 v s).result = s.result := rfl
@[simp] theorem setArg1_done : (setArg1 v s).done = s.done := rfl
@[simp] theorem setArg1_bbsValid : (setArg1 v s).bbsValid = s.bbsValid := rfl
@[simp] theorem setArg1_ovr : (setArg1 v s).ovr = s.ovr := rfl
@[simp] theorem setArg1_err : (setArg1 v s).err = s.err := rfl
@[simp] theorem setArg1_phase : (setArg1 v s).phase = s.phase := rfl
@[simp] theorem setArg1_mxR : (setArg1 v s).mxR = s.mxR := rfl
@[simp] theorem setArg1_mxB : (setArg1 v s).mxB = s.mxB := rfl
@[simp] theorem setArg1_mxE : (setArg1 v s).mxE = s.mxE := rfl
@[simp] theorem setArg1_mxM : (setArg1 v s).mxM = s.mxM := rfl
@[simp] theorem setArg1_gcdA : (setArg1 v s).gcdA = s.gcdA := rfl
@[simp] theorem setArg1_gcdB : (setArg1 v s).gcdB = s.gcdB := rfl
@[simp] theorem setArg1_acc : (setArg1 v s).acc = s.acc := rfl
@[simp] theorem setArg1_bbsN : (setArg1 v s).bbsN = s.bbsN := rfl
@[simp] theorem setArg1_bbsState : (setArg1 v s).bbsState = s.bbsState := rfl
@[simp] theorem setArg1_lines : (setArg1 v s).lines = s.lines := rfl
@[simp] theorem setArg1_turns : (setArg1 v s).turns = s.turns := rfl
@[simp] theorem setArg1_reads : (setArg1 v s).reads = s.reads := rfl
@[simp] theorem setArg1_calls : (setArg1 v s).calls = s.calls := rfl
@[simp] theorem setArg1_bitseqs : (setArg1 v s).bitseqs = s.bitseqs := rfl
@[simp] theorem setArg1_draws : (setArg1 v s).draws = s.draws := rfl

@[simp] theorem setArg2_arg0 : (setArg2 v s).arg0 = s.arg0 := rfl
@[simp] theorem setArg2_arg1 : (setArg2 v s).arg1 = s.arg1 := rfl
@[simp] theorem setArg2_arg2 : (setArg2 v s).arg2 = v := rfl
@[simp] theorem setArg2_result : (setArg2 v s).result = s.result := rfl
@[simp] theorem setArg2_done : (setArg2 v s).done = s.done := rfl
@[simp] theorem setArg2_bbsValid : (setArg2 v s).bbsValid = s.bbsValid := rfl
@[simp] theorem setArg2_ovr : (setArg2 v s).ovr = s.ovr := rfl
@[simp] theorem setArg2_err : (setArg2 v s).err = s.err := rfl
@[simp] theorem setArg2_phase : (setArg2 v s).phase = s.phase := rfl
@[simp] theorem setArg2_mxR : (setArg2 v s).mxR = s.mxR := rfl
@[simp] theorem setArg2_mxB : (setArg2 v s).mxB = s.mxB := rfl
@[simp] theorem setArg2_mxE : (setArg2 v s).mxE = s.mxE := rfl
@[simp] theorem setArg2_mxM : (setArg2 v s).mxM = s.mxM := rfl
@[simp] theorem setArg2_gcdA : (setArg2 v s).gcdA = s.gcdA := rfl
@[simp] theorem setArg2_gcdB : (setArg2 v s).gcdB = s.gcdB := rfl
@[simp] theorem setArg2_acc : (setArg2 v s).acc = s.acc := rfl
@[simp] theorem setArg2_bbsN : (setArg2 v s).bbsN = s.bbsN := rfl
@[simp] theorem setArg2_bbsState : (setArg2 v s).bbsState = s.bbsState := rfl
@[simp] theorem setArg2_lines : (setArg2 v s).lines = s.lines := rfl
@[simp] theorem setArg2_turns : (setArg2 v s).turns = s.turns := rfl
@[simp] theorem setArg2_reads : (setArg2 v s).reads = s.reads := rfl
@[simp] theorem setArg2_calls : (setArg2 v s).calls = s.calls := rfl
@[simp] theorem setArg2_bitseqs : (setArg2 v s).bitseqs = s.bitseqs := rfl
@[simp] theorem setArg2_draws : (setArg2 v s).draws = s.draws := rfl

@[simp] theorem setLines_arg0 : (setLines ls s).arg0 = s.arg0 := rfl
@[simp] theorem setLines_arg1 : (setLines ls s).arg1 = s.arg1 := rfl
@[simp] theorem setLines_arg2 : (setLines ls s).arg2 = s.arg2 := rfl
@[simp] theorem setLines_result : (setLines ls s).result = s.result := rfl
@[simp] theorem setLines_done : (setLines ls s).done = s.done := rfl
@[simp] theorem setLines_bbsValid : (setLines ls s).bbsValid = s.bbsValid := rfl
@[simp] theorem setLines_ovr : (setLines ls s).ovr = s.ovr := rfl
@[simp] theorem setLines_err : (setLines ls s).err = s.err := rfl
@[simp] theorem setLines_phase : (setLines ls s).phase = s.phase := rfl
@[simp] theorem setLines_mxR : (setLines ls s).mxR = s.mxR := rfl
@[simp] theorem setLines_mxB : (setLines ls s).mxB = s.mxB := rfl
@[simp] theorem setLines_mxE : (setLines ls s).mxE = s.mxE := rfl
@[simp] theorem setLines_mxM : (setLines ls s).mxM = s.mxM := rfl
@[simp] theorem setLines_gcdA : (setLines ls s).gcdA = s.gcdA := rfl
@[simp] theorem setLines_gcdB : (setLines ls s).gcdB = s.gcdB := rfl
@[simp] theorem setLines_acc : (setLines ls s).acc = s.acc := rfl
@[simp] theorem setLines_bbsN : (setLines ls s).bbsN = s.bbsN := rfl
@[simp] theorem setLines_bbsState : (setLines ls s).bbsState = s.bbsState := rfl
@[simp] theorem setLines_lines : (setLines ls s).lines = ls := rfl
@[simp] theorem setLines_turns : (setLines ls s).turns = s.turns := rfl
@[simp] theorem setLines_reads : (setLines ls s).reads = s.reads := rfl
@[simp] theorem setLines_calls : (setLines ls s).calls = s.calls := rfl
@[simp] theorem setLines_bitseqs : (setLines ls s).bitseqs = s.bitseqs := rfl
@[simp] theorem setLines_draws : (setLines ls s).draws = s.draws := rfl

@[simp] theorem dropTurn_arg0 : (dropTurn s).arg0 = s.arg0 := rfl
@[simp] theorem dropTurn_arg1 : (dropTurn s).arg1 = s.arg1 := rfl
@[simp] theorem dropTurn_arg2 : (dropTurn s).arg2 = s.arg2 := rfl
@[simp] theorem dropTurn_result : (dropTurn s).result = s.result := rfl
@[simp] theorem dropTurn_done : (dropTurn s).done = s.done := rfl
@[simp] theorem dropTurn_bbsValid : (dropTurn s).bbsValid = s.bbsValid := rfl
@[simp] theorem dropTurn_ovr : (dropTurn s).ovr = s.ovr := rfl
@[simp] theorem dropTurn_err : (dropTurn s).err = s.err := rfl
@[simp] theorem dropTurn_phase : (dropTurn s).phase = s.phase := rfl
@[simp] theorem dropTurn_mxR : (dropTurn s).mxR = s.mxR := rfl
@[simp] theorem dropTurn_mxB : (dropTurn s).mxB = s.mxB := rfl
@[simp] theorem dropTurn_mxE : (dropTurn s).mxE = s.mxE := rfl
@[simp] theorem dropTurn_mxM : (dropTurn s).mxM = s.mxM := rfl
@[simp] theorem dropTurn_gcdA : (dropTurn s).gcdA = s.gcdA := rfl
@[simp] theorem dropTurn_gcdB : (dropTurn s).gcdB = s.gcdB := rfl
@[simp] theorem dropTurn_acc : (dropTurn s).acc = s.acc := rfl
@[simp] theorem dropTurn_bbsN : (dropTurn s).bbsN = s.bbsN := rfl
@[simp] theorem dropTurn_bbsState : (dropTurn s).bbsState = s.bbsState := rfl
@[simp] theorem dropTurn_lines : (dropTurn s).lines = s.lines := rfl
@[simp] theorem dropTurn_turns : (dropTurn s).turns = s.turns.tail := rfl
@[simp] theorem dropTurn_reads : (dropTurn s).reads = s.reads := rfl
@[simp] theorem dropTurn_calls : (dropTurn s).calls = s.calls := rfl
@[simp] theorem dropTurn_bitseqs : (dropTurn s).bitseqs = s.bitseqs := rfl
@[simp] theorem dropTurn_draws : (dropTurn s).draws = s.draws := rfl

@[simp] theorem loadModexp_arg0 : (loadModexp s).arg0 = s.arg0 := rfl
@[simp] theorem loadModexp_arg1 : (loadModexp s).arg1 = s.arg1 := rfl
@[simp] theorem loadModexp_arg2 : (loadModexp s).arg2 = s.arg2 := rfl
@[simp] theorem loadModexp_result : (loadModexp s).result = s.result := rfl
@[simp] theorem loadModexp_done : (loadModexp s).done = s.done := rfl
@[simp] theorem loadModexp_bbsValid : (loadModexp s).bbsValid = s.bbsValid := rfl
@[simp] theorem loadModexp_ovr : (loadModexp s).ovr = s.ovr := rfl
@[simp] theorem loadModexp_err : (loadModexp s).err = s.err := rfl
@[simp] theorem loadModexp_phase : (loadModexp s).phase = .mxLoop := rfl
@[simp] theorem loadModexp_mxR : (loadModexp s).mxR = 1 := rfl
@[simp] theorem loadModexp_mxB : (loadModexp s).mxB = s.arg0 % s.arg2 := rfl
@[simp] theorem loadModexp_mxE : (loadModexp s).mxE = s.arg1 := rfl
@[simp] theorem loadModexp_mxM : (loadModexp s).mxM = s.arg2 := rfl
@[simp] theorem loadModexp_gcdA : (loadModexp s).gcdA = s.gcdA := rfl
@[simp] theorem loadModexp_gcdB : (loadModexp s).gcdB = s.gcdB := rfl
@[simp] theorem loadModexp_acc : (loadModexp s).acc = s.acc := rfl
@[simp] theorem loadModexp_bbsN : (loadModexp s).bbsN = s.bbsN := rfl
@[simp] theorem loadModexp_bbsState : (loadModexp s).bbsState = s.bbsState := rfl
@[simp] theorem loadModexp_lines : (loadModexp s).lines = s.lines := rfl
@[simp] theorem loadModexp_turns : (loadModexp s).turns = s.turns := rfl
@[simp] theorem loadModexp_reads : (loadModexp s).reads = s.reads := rfl
@[simp] theorem loadModexp_calls : (loadModexp s).calls = s.calls := rfl
@[simp] theorem loadModexp_bitseqs : (loadModexp s).bitseqs = s.bitseqs := rfl
@[simp] theorem loadModexp_draws : (loadModexp s).draws = s.draws := rfl

@[simp] theorem modexpIterate_arg0 : (modexpIterate s).arg0 = s.arg0 := rfl
@[simp] theorem modexpIterate_arg1 : (modexpIterate s).arg1 = s.arg1 := rfl
@[simp] theorem modexpIterate_arg2 : (modexpIterate s).arg2 = s.arg2 := rfl
@[simp] theorem modexpIterate_result : (modexpIterate s).result = s.result := rfl
@[simp] theorem modexpIterate_done : (modexpIterate s).done = s.done := rfl
@[simp] theorem modexpIterate_bbsValid : (modexpIterate s).bbsValid = s.bbsValid := rfl
@[simp] theorem modexpIterate_ovr : (modexpIterate s).ovr = s.ovr := rfl
@[simp] theorem modexpIterate_err : (modexpIterate s).err = s.err := rfl
@[simp] theorem modexpIterate_phase : (modexpIterate s).phase = s.phase := rfl
@[simp] theorem modexpIterate_mxR : (modexpIterate s).mxR = if s.mxE.getLsbD 0 then mulmod s.mxR s.mxB s.mxM else s.mxR := rfl
@[simp] theorem modexpIterate_mxB : (modexpIterate s).mxB = mulmod s.mxB s.mxB s.mxM := rfl
@[simp] theorem modexpIterate_mxE : (modexpIterate s).mxE = s.mxE >>> 1 := rfl
@[simp] theorem modexpIterate_mxM : (modexpIterate s).mxM = s.mxM := rfl
@[simp] theorem modexpIterate_gcdA : (modexpIterate s).gcdA = s.gcdA := rfl
@[simp] theorem modexpIterate_gcdB : (modexpIterate s).gcdB = s.gcdB := rfl
@[simp] theorem modexpIterate_acc : (modexpIterate s).acc = product s.mxB s.mxB := rfl
@[simp] theorem modexpIterate_bbsN : (modexpIterate s).bbsN = s.bbsN := rfl
@[simp] theorem modexpIterate_bbsState : (modexpIterate s).bbsState = s.bbsState := rfl
@[simp] theorem modexpIterate_lines : (modexpIterate s).lines = s.lines := rfl
@[simp] theorem modexpIterate_turns : (modexpIterate s).turns = s.turns := rfl
@[simp] theorem modexpIterate_reads : (modexpIterate s).reads = s.reads := rfl
@[simp] theorem modexpIterate_calls : (modexpIterate s).calls = s.calls := rfl
@[simp] theorem modexpIterate_bitseqs : (modexpIterate s).bitseqs = s.bitseqs := rfl
@[simp] theorem modexpIterate_draws : (modexpIterate s).draws = s.draws := rfl

@[simp] theorem acceptGcd_arg0 : (acceptGcd s).arg0 = s.arg0 := rfl
@[simp] theorem acceptGcd_arg1 : (acceptGcd s).arg1 = s.arg1 := rfl
@[simp] theorem acceptGcd_arg2 : (acceptGcd s).arg2 = s.arg2 := rfl
@[simp] theorem acceptGcd_result : (acceptGcd s).result = s.result := rfl
@[simp] theorem acceptGcd_done : (acceptGcd s).done = s.done := rfl
@[simp] theorem acceptGcd_bbsValid : (acceptGcd s).bbsValid = s.bbsValid := rfl
@[simp] theorem acceptGcd_ovr : (acceptGcd s).ovr = s.ovr := rfl
@[simp] theorem acceptGcd_err : (acceptGcd s).err = s.err := rfl
@[simp] theorem acceptGcd_phase : (acceptGcd s).phase = .gcdLoop := rfl
@[simp] theorem acceptGcd_mxR : (acceptGcd s).mxR = s.mxR := rfl
@[simp] theorem acceptGcd_mxB : (acceptGcd s).mxB = s.mxB := rfl
@[simp] theorem acceptGcd_mxE : (acceptGcd s).mxE = s.mxE := rfl
@[simp] theorem acceptGcd_mxM : (acceptGcd s).mxM = s.mxM := rfl
@[simp] theorem acceptGcd_gcdA : (acceptGcd s).gcdA = s.arg0 := rfl
@[simp] theorem acceptGcd_gcdB : (acceptGcd s).gcdB = s.arg1 := rfl
@[simp] theorem acceptGcd_acc : (acceptGcd s).acc = s.acc := rfl
@[simp] theorem acceptGcd_bbsN : (acceptGcd s).bbsN = s.bbsN := rfl
@[simp] theorem acceptGcd_bbsState : (acceptGcd s).bbsState = s.bbsState := rfl
@[simp] theorem acceptGcd_lines : (acceptGcd s).lines = s.lines := rfl
@[simp] theorem acceptGcd_turns : (acceptGcd s).turns = s.turns := rfl
@[simp] theorem acceptGcd_reads : (acceptGcd s).reads = s.reads := rfl
@[simp] theorem acceptGcd_calls : (acceptGcd s).calls = s.calls := rfl
@[simp] theorem acceptGcd_bitseqs : (acceptGcd s).bitseqs = s.bitseqs := rfl
@[simp] theorem acceptGcd_draws : (acceptGcd s).draws = s.draws := rfl

@[simp] theorem dropGenerator_arg0 : (dropGenerator s).arg0 = s.arg0 := rfl
@[simp] theorem dropGenerator_arg1 : (dropGenerator s).arg1 = s.arg1 := rfl
@[simp] theorem dropGenerator_arg2 : (dropGenerator s).arg2 = s.arg2 := rfl
@[simp] theorem dropGenerator_result : (dropGenerator s).result = s.result := rfl
@[simp] theorem dropGenerator_done : (dropGenerator s).done = s.done := rfl
@[simp] theorem dropGenerator_bbsValid : (dropGenerator s).bbsValid = false := rfl
@[simp] theorem dropGenerator_ovr : (dropGenerator s).ovr = s.ovr := rfl
@[simp] theorem dropGenerator_err : (dropGenerator s).err = s.err := rfl
@[simp] theorem dropGenerator_phase : (dropGenerator s).phase = s.phase := rfl
@[simp] theorem dropGenerator_mxR : (dropGenerator s).mxR = s.mxR := rfl
@[simp] theorem dropGenerator_mxB : (dropGenerator s).mxB = s.mxB := rfl
@[simp] theorem dropGenerator_mxE : (dropGenerator s).mxE = s.mxE := rfl
@[simp] theorem dropGenerator_mxM : (dropGenerator s).mxM = s.mxM := rfl
@[simp] theorem dropGenerator_gcdA : (dropGenerator s).gcdA = s.gcdA := rfl
@[simp] theorem dropGenerator_gcdB : (dropGenerator s).gcdB = s.gcdB := rfl
@[simp] theorem dropGenerator_acc : (dropGenerator s).acc = s.acc := rfl
@[simp] theorem dropGenerator_bbsN : (dropGenerator s).bbsN = s.bbsN := rfl
@[simp] theorem dropGenerator_bbsState : (dropGenerator s).bbsState = s.bbsState := rfl
@[simp] theorem dropGenerator_lines : (dropGenerator s).lines = s.lines := rfl
@[simp] theorem dropGenerator_turns : (dropGenerator s).turns = s.turns := rfl
@[simp] theorem dropGenerator_reads : (dropGenerator s).reads = s.reads := rfl
@[simp] theorem dropGenerator_calls : (dropGenerator s).calls = s.calls := rfl
@[simp] theorem dropGenerator_bitseqs : (dropGenerator s).bitseqs = s.bitseqs := rfl
@[simp] theorem dropGenerator_draws : (dropGenerator s).draws = s.draws := rfl

@[simp] theorem loadGenerator_arg0 : (loadGenerator s).arg0 = s.arg0 := rfl
@[simp] theorem loadGenerator_arg1 : (loadGenerator s).arg1 = s.arg1 := rfl
@[simp] theorem loadGenerator_arg2 : (loadGenerator s).arg2 = s.arg2 := rfl
@[simp] theorem loadGenerator_result : (loadGenerator s).result = s.result := rfl
@[simp] theorem loadGenerator_done : (loadGenerator s).done = s.done := rfl
@[simp] theorem loadGenerator_bbsValid : (loadGenerator s).bbsValid = s.bbsValid := rfl
@[simp] theorem loadGenerator_ovr : (loadGenerator s).ovr = s.ovr := rfl
@[simp] theorem loadGenerator_err : (loadGenerator s).err = s.err := rfl
@[simp] theorem loadGenerator_phase : (loadGenerator s).phase = .initGcd := rfl
@[simp] theorem loadGenerator_mxR : (loadGenerator s).mxR = s.mxR := rfl
@[simp] theorem loadGenerator_mxB : (loadGenerator s).mxB = s.mxB := rfl
@[simp] theorem loadGenerator_mxE : (loadGenerator s).mxE = s.mxE := rfl
@[simp] theorem loadGenerator_mxM : (loadGenerator s).mxM = s.mxM := rfl
@[simp] theorem loadGenerator_gcdA : (loadGenerator s).gcdA = s.arg1 := rfl
@[simp] theorem loadGenerator_gcdB : (loadGenerator s).gcdB = s.arg0 := rfl
@[simp] theorem loadGenerator_acc : (loadGenerator s).acc = s.acc := rfl
@[simp] theorem loadGenerator_bbsN : (loadGenerator s).bbsN = s.arg0 := rfl
@[simp] theorem loadGenerator_bbsState : (loadGenerator s).bbsState = s.arg1 := rfl
@[simp] theorem loadGenerator_lines : (loadGenerator s).lines = s.lines := rfl
@[simp] theorem loadGenerator_turns : (loadGenerator s).turns = s.turns := rfl
@[simp] theorem loadGenerator_reads : (loadGenerator s).reads = s.reads := rfl
@[simp] theorem loadGenerator_calls : (loadGenerator s).calls = s.calls := rfl
@[simp] theorem loadGenerator_bitseqs : (loadGenerator s).bitseqs = s.bitseqs := rfl
@[simp] theorem loadGenerator_draws : (loadGenerator s).draws = s.draws := rfl

@[simp] theorem validateGenerator_arg0 : (validateGenerator s).arg0 = s.arg0 := rfl
@[simp] theorem validateGenerator_arg1 : (validateGenerator s).arg1 = s.arg1 := rfl
@[simp] theorem validateGenerator_arg2 : (validateGenerator s).arg2 = s.arg2 := rfl
@[simp] theorem validateGenerator_result : (validateGenerator s).result = s.result := rfl
@[simp] theorem validateGenerator_done : (validateGenerator s).done = s.done := rfl
@[simp] theorem validateGenerator_bbsValid : (validateGenerator s).bbsValid = true := rfl
@[simp] theorem validateGenerator_ovr : (validateGenerator s).ovr = s.ovr := rfl
@[simp] theorem validateGenerator_err : (validateGenerator s).err = s.err := rfl
@[simp] theorem validateGenerator_phase : (validateGenerator s).phase = s.phase := rfl
@[simp] theorem validateGenerator_mxR : (validateGenerator s).mxR = s.mxR := rfl
@[simp] theorem validateGenerator_mxB : (validateGenerator s).mxB = s.mxB := rfl
@[simp] theorem validateGenerator_mxE : (validateGenerator s).mxE = s.mxE := rfl
@[simp] theorem validateGenerator_mxM : (validateGenerator s).mxM = s.mxM := rfl
@[simp] theorem validateGenerator_gcdA : (validateGenerator s).gcdA = s.gcdA := rfl
@[simp] theorem validateGenerator_gcdB : (validateGenerator s).gcdB = s.gcdB := rfl
@[simp] theorem validateGenerator_acc : (validateGenerator s).acc = s.acc := rfl
@[simp] theorem validateGenerator_bbsN : (validateGenerator s).bbsN = s.bbsN := rfl
@[simp] theorem validateGenerator_bbsState : (validateGenerator s).bbsState = s.bbsState := rfl
@[simp] theorem validateGenerator_lines : (validateGenerator s).lines = s.lines := rfl
@[simp] theorem validateGenerator_turns : (validateGenerator s).turns = s.turns := rfl
@[simp] theorem validateGenerator_reads : (validateGenerator s).reads = s.reads := rfl
@[simp] theorem validateGenerator_calls : (validateGenerator s).calls = s.calls := rfl
@[simp] theorem validateGenerator_bitseqs : (validateGenerator s).bitseqs = s.bitseqs := rfl
@[simp] theorem validateGenerator_draws : (validateGenerator s).draws = s.draws := rfl

@[simp] theorem squareState_arg0 : (squareState s).arg0 = s.arg0 := rfl
@[simp] theorem squareState_arg1 : (squareState s).arg1 = s.arg1 := rfl
@[simp] theorem squareState_arg2 : (squareState s).arg2 = s.arg2 := rfl
@[simp] theorem squareState_result : (squareState s).result = s.result := rfl
@[simp] theorem squareState_done : (squareState s).done = s.done := rfl
@[simp] theorem squareState_bbsValid : (squareState s).bbsValid = s.bbsValid := rfl
@[simp] theorem squareState_ovr : (squareState s).ovr = s.ovr := rfl
@[simp] theorem squareState_err : (squareState s).err = s.err := rfl
@[simp] theorem squareState_phase : (squareState s).phase = s.phase := rfl
@[simp] theorem squareState_mxR : (squareState s).mxR = s.mxR := rfl
@[simp] theorem squareState_mxB : (squareState s).mxB = s.mxB := rfl
@[simp] theorem squareState_mxE : (squareState s).mxE = s.mxE := rfl
@[simp] theorem squareState_mxM : (squareState s).mxM = s.mxM := rfl
@[simp] theorem squareState_gcdA : (squareState s).gcdA = s.gcdA := rfl
@[simp] theorem squareState_gcdB : (squareState s).gcdB = s.gcdB := rfl
@[simp] theorem squareState_acc : (squareState s).acc = product s.bbsState s.bbsState := rfl
@[simp] theorem squareState_bbsN : (squareState s).bbsN = s.bbsN := rfl
@[simp] theorem squareState_bbsState : (squareState s).bbsState = mulmod s.bbsState s.bbsState s.bbsN := rfl
@[simp] theorem squareState_lines : (squareState s).lines = s.lines := rfl
@[simp] theorem squareState_turns : (squareState s).turns = s.turns := rfl
@[simp] theorem squareState_reads : (squareState s).reads = s.reads := rfl
@[simp] theorem squareState_calls : (squareState s).calls = s.calls := rfl
@[simp] theorem squareState_bitseqs : (squareState s).bitseqs = s.bitseqs := rfl
@[simp] theorem squareState_draws : (squareState s).draws = s.draws := rfl

@[simp] theorem resetEvent_arg0 : (resetEvent s).arg0 = 0 := rfl
@[simp] theorem resetEvent_arg1 : (resetEvent s).arg1 = 0 := rfl
@[simp] theorem resetEvent_arg2 : (resetEvent s).arg2 = 0 := rfl
@[simp] theorem resetEvent_result : (resetEvent s).result = 0 := rfl
@[simp] theorem resetEvent_done : (resetEvent s).done = false := rfl
@[simp] theorem resetEvent_bbsValid : (resetEvent s).bbsValid = false := rfl
@[simp] theorem resetEvent_ovr : (resetEvent s).ovr = false := rfl
@[simp] theorem resetEvent_err : (resetEvent s).err = 0 := rfl
@[simp] theorem resetEvent_phase : (resetEvent s).phase = .idle := rfl
@[simp] theorem resetEvent_bbsN : (resetEvent s).bbsN = 0 := rfl
@[simp] theorem resetEvent_bbsState : (resetEvent s).bbsState = 0 := rfl
@[simp] theorem resetEvent_lines : (resetEvent s).lines = s.lines := rfl
@[simp] theorem resetEvent_turns : (resetEvent s).turns = s.turns := rfl
@[simp] theorem resetEvent_reads : (resetEvent s).reads = s.reads := rfl
@[simp] theorem resetEvent_calls : (resetEvent s).calls = s.calls := rfl
@[simp] theorem resetEvent_bitseqs : (resetEvent s).bitseqs = s.bitseqs := rfl
@[simp] theorem resetEvent_draws : (resetEvent s).draws = s.draws + 7 := rfl

@[simp] theorem yieldCall_arg0 : (yieldCall s).arg0 = s.arg0 := rfl
@[simp] theorem yieldCall_arg1 : (yieldCall s).arg1 = s.arg1 := rfl
@[simp] theorem yieldCall_arg2 : (yieldCall s).arg2 = s.arg2 := rfl
@[simp] theorem yieldCall_result : (yieldCall s).result = s.result := rfl
@[simp] theorem yieldCall_done : (yieldCall s).done = s.done := rfl
@[simp] theorem yieldCall_bbsValid : (yieldCall s).bbsValid = s.bbsValid := rfl
@[simp] theorem yieldCall_ovr : (yieldCall s).ovr = s.ovr := rfl
@[simp] theorem yieldCall_err : (yieldCall s).err = s.err := rfl
@[simp] theorem yieldCall_phase : (yieldCall s).phase = s.phase := rfl
@[simp] theorem yieldCall_mxR : (yieldCall s).mxR = s.mxR := rfl
@[simp] theorem yieldCall_mxB : (yieldCall s).mxB = s.mxB := rfl
@[simp] theorem yieldCall_mxE : (yieldCall s).mxE = s.mxE := rfl
@[simp] theorem yieldCall_mxM : (yieldCall s).mxM = s.mxM := rfl
@[simp] theorem yieldCall_gcdA : (yieldCall s).gcdA = s.gcdA := rfl
@[simp] theorem yieldCall_gcdB : (yieldCall s).gcdB = s.gcdB := rfl
@[simp] theorem yieldCall_acc : (yieldCall s).acc = s.acc := rfl
@[simp] theorem yieldCall_bbsN : (yieldCall s).bbsN = s.bbsN := rfl
@[simp] theorem yieldCall_bbsState : (yieldCall s).bbsState = s.bbsState := rfl
@[simp] theorem yieldCall_lines : (yieldCall s).lines = s.lines := rfl
@[simp] theorem yieldCall_turns : (yieldCall s).turns = s.turns := rfl
@[simp] theorem yieldCall_reads : (yieldCall s).reads = s.reads := rfl
@[simp] theorem yieldCall_calls : (yieldCall s).calls = callPair s :: s.calls := rfl
@[simp] theorem yieldCall_bitseqs : (yieldCall s).bitseqs = s.bitseqs := rfl
@[simp] theorem yieldCall_draws : (yieldCall s).draws = s.draws := rfl

@[simp] theorem returnBitseq_arg0 : (returnBitseq b s).arg0 = s.arg0 := rfl
@[simp] theorem returnBitseq_arg1 : (returnBitseq b s).arg1 = s.arg1 := rfl
@[simp] theorem returnBitseq_arg2 : (returnBitseq b s).arg2 = s.arg2 := rfl
@[simp] theorem returnBitseq_result : (returnBitseq b s).result = s.result := rfl
@[simp] theorem returnBitseq_done : (returnBitseq b s).done = s.done := rfl
@[simp] theorem returnBitseq_bbsValid : (returnBitseq b s).bbsValid = s.bbsValid := rfl
@[simp] theorem returnBitseq_ovr : (returnBitseq b s).ovr = s.ovr := rfl
@[simp] theorem returnBitseq_err : (returnBitseq b s).err = s.err := rfl
@[simp] theorem returnBitseq_phase : (returnBitseq b s).phase = s.phase := rfl
@[simp] theorem returnBitseq_mxR : (returnBitseq b s).mxR = s.mxR := rfl
@[simp] theorem returnBitseq_mxB : (returnBitseq b s).mxB = s.mxB := rfl
@[simp] theorem returnBitseq_mxE : (returnBitseq b s).mxE = s.mxE := rfl
@[simp] theorem returnBitseq_mxM : (returnBitseq b s).mxM = s.mxM := rfl
@[simp] theorem returnBitseq_gcdA : (returnBitseq b s).gcdA = s.gcdA := rfl
@[simp] theorem returnBitseq_gcdB : (returnBitseq b s).gcdB = s.gcdB := rfl
@[simp] theorem returnBitseq_acc : (returnBitseq b s).acc = s.acc := rfl
@[simp] theorem returnBitseq_bbsN : (returnBitseq b s).bbsN = s.bbsN := rfl
@[simp] theorem returnBitseq_bbsState : (returnBitseq b s).bbsState = s.bbsState := rfl
@[simp] theorem returnBitseq_lines : (returnBitseq b s).lines = s.lines := rfl
@[simp] theorem returnBitseq_turns : (returnBitseq b s).turns = s.turns := rfl
@[simp] theorem returnBitseq_reads : (returnBitseq b s).reads = s.reads := rfl
@[simp] theorem returnBitseq_calls : (returnBitseq b s).calls = s.calls := rfl
@[simp] theorem returnBitseq_bitseqs : (returnBitseq b s).bitseqs = b :: s.bitseqs := rfl
@[simp] theorem returnBitseq_draws : (returnBitseq b s).draws = s.draws := rfl

end Sys2Proof.Machine
end

