-- ==== Sys2Proof/Laws/Ops.lean ====
section
/-! SUPPORT. What each shared operation computes and when: the multiply and its reduction, the accept frame, Euclid's iteration, STATUS and the register map, decoding. -/

namespace Sys2Proof.Machine

/-! ### Arithmetic -/

/-- The product is exact: R7, `(2^64 - 1)^2 < 2^128`. -/
@[simp] theorem product_toNat (a b : Word) : (product a b).toNat = a.toNat * b.toNat := by
  have h : a.toNat * b.toNat < 2 ^ 64 * 2 ^ 64 := Nat.mul_lt_mul'' a.isLt b.isLt
  simp only [product, BitVec.toNat_ofNat]
  exact Nat.mod_eq_of_lt (by omega)

theorem toNat_pos_of_ne_zero {w : Word} (h : w ≠ 0) : 0 < w.toNat :=
  Nat.pos_of_ne_zero fun h' => h (BitVec.eq_of_toNat_eq (by simpa using h'))

theorem reduce_toNat (acc : Wide) (m : Word) (hm : m ≠ 0) : (reduce acc m).toNat = acc.toNat % m.toNat := by
  have hlt := Nat.mod_lt acc.toNat (toNat_pos_of_ne_zero hm)
  have := m.isLt
  simp only [reduce, BitVec.toNat_ofNat]
  exact Nat.mod_eq_of_lt (by omega)

theorem mulmod_toNat (a b m : Word) (hm : m ≠ 0) : (mulmod a b m).toNat = (a.toNat * b.toNat) % m.toNat := by
  simp [mulmod, reduce_toNat _ _ hm]

theorem mulmod_lt (a b m : Word) (hm : m ≠ 0) : (mulmod a b m).toNat < m.toNat := by
  rw [mulmod_toNat a b m hm]
  exact Nat.mod_lt _ (toNat_pos_of_ne_zero hm)

theorem lowBit_toNat (w : Word) : (lowBit w).toNat = w.toNat % 2 := by
  rw [lowBit, BitVec.toNat_setWidth, BitVec.toNat_ofBool, BitVec.getLsbD, Nat.testBit_zero]
  rcases Nat.mod_two_eq_zero_or_one w.toNat with h | h <;> simp [h]

theorem bit0_eq (w : Word) : w.getLsbD 0 = decide (w.toNat % 2 = 1) := by
  rw [BitVec.getLsbD, Nat.testBit_zero]

theorem half_toNat (w : Word) : (w >>> 1).toNat = w.toNat / 2 := by
  simp [Nat.shiftRight_eq_div_pow]

theorem ne_zero_of_two_le {m : Word} (h : 2 ≤ m.toNat) : m ≠ 0 := by
  rintro rfl
  simp at h

/-- The range test in the form without a subtraction. -/
theorem seedInRange_iff {n seed : Word} (hn : 2 ≤ n.toNat) :
    seedInRange n seed = true ↔ 2 ≤ seed.toNat ∧ seed.toNat + 2 ≤ n.toNat := by
  simp only [seedInRange, decide_eq_true_eq]
  omega

/-! ### The accept frame -/

theorem issue_idle (f : State → State) {s : State} (h : s.phase = .idle) : issue f s = f (clearOutcome s) := by
  simp [issue, h]

theorem issue_busy (f : State → State) {s : State} (h : s.phase ≠ .idle) : issue f s = setOverrun s := by
  simp [issue, h]

theorem acceptModexp_raises {s : State} (h : s.arg2.toNat < 2) : acceptModexp s = raise .invalidModulus s := by
  simp [acceptModexp, opMod, h]

theorem acceptModexp_loads {s : State} (h : 2 ≤ s.arg2.toNat) : acceptModexp s = loadModexp s := by
  simp [acceptModexp, opMod, Nat.not_lt.mpr h]

theorem acceptBbsInit_badModulus {s : State} (h : s.arg0.toNat < 2) :
    acceptBbsInit s = raise .invalidModulus (dropGenerator s) := by
  simp [acceptBbsInit, opN, h]

theorem acceptBbsInit_badSeed {s : State} (h : 2 ≤ s.arg0.toNat)
    (hs : ¬(2 ≤ s.arg1.toNat ∧ s.arg1.toNat + 2 ≤ s.arg0.toNat)) :
    acceptBbsInit s = raise .invalidSeed (dropGenerator s) := by
  have hr : ¬(seedInRange s.arg0 s.arg1 = true) := by rwa [seedInRange_iff h]
  simp [acceptBbsInit, opN, opSeed, Nat.not_lt.mpr h, hr]

theorem acceptBbsInit_loads {s : State} (hs : 2 ≤ s.arg1.toNat ∧ s.arg1.toNat + 2 ≤ s.arg0.toNat) :
    acceptBbsInit s = loadGenerator (dropGenerator s) := by
  have h : 2 ≤ s.arg0.toNat := by omega
  simp [acceptBbsInit, opN, opSeed, Nat.not_lt.mpr h, (seedInRange_iff h).mpr hs]

theorem acceptBbsNext_ready {s : State} (h : s.bbsValid = true) :
    acceptBbsNext s = { s with phase := .bbsSq } := by
  simp [acceptBbsNext, h]

theorem acceptBbsNext_notReady {s : State} (h : s.bbsValid = false) :
    acceptBbsNext s = raise .generatorNotReady s := by
  simp [acceptBbsNext, h]

/-! ### Euclid -/

/-- An iteration keeps the greatest common divisor (R114). -/
theorem euclid_gcd (s : State) :
    Nat.gcd (euclid s).gcdA.toNat (euclid s).gcdB.toNat = Nat.gcd s.gcdA.toNat s.gcdB.toNat := by
  simp only [euclid_gcdA, euclid_gcdB, BitVec.toNat_umod]
  rw [Nat.gcd_comm s.gcdB.toNat, ← Nat.gcd_rec, Nat.gcd_comm]

/-! ### STATUS and the register map -/

theorem busy_iff (s : State) : busy s = true ↔ s.phase ≠ .idle := by simp [busy]

theorem statusWord_toNat (s : State) :
    (statusWord s).toNat =
      (busy s).toNat + 2 * s.done.toNat + 4 * s.bbsValid.toNat + 8 * s.ovr.toNat + 16 * s.err.toNat := by
  have h1 := Bool.toNat_le (busy s)
  have h2 := Bool.toNat_le s.done
  have h3 := Bool.toNat_le s.bbsValid
  have h4 := Bool.toNat_le s.ovr
  have h5 := s.err.isLt
  simp only [statusWord, BitVec.toNat_ofNat]
  exact Nat.mod_eq_of_lt (by omega)

/-- Bit 0 of a STATUS value is BUSY (R27). -/
theorem busyOf_status (s : State) : busyOf (regRead idxStatus s) = busy s := by
  have h : regRead idxStatus s = statusWord s := rfl
  rw [h, busyOf, BitVec.getLsbD, statusWord_toNat, Nat.testBit_zero]
  cases busy s <;> simp <;> omega

/-! ### Decoding -/

/-- A word that decodes is the encoding of what it decodes to. -/
theorem decode_ok_toNat {w : Word} {i : Instr} (h : decode w = .ok i) : w.toNat = (encode i).toNat := by
  have hw : w.toNat = (fieldsOf w).rsv.toNat * 256 + (fieldsOf w).opc.toNat := by
    have := w.isLt
    simp only [fieldsOf, BitVec.extractLsb'_toNat]
    omega
  unfold decode at h
  split at h
  · cases h
  · rename_i hr
    have hr : (fieldsOf w).rsv = 0 := by simpa using hr
    rw [hw, hr]
    repeat' split at h
    all_goals first | (cases h; done) | (rename_i ho; cases h; rw [ho]; rfl)

end Sys2Proof.Machine
end

