-- ==== Sys2Proof/Laws/Cases.lean ====
section
/-! SUPPORT. Inversions: all that one step of each unit, one accept, one CMD write and one event can do. Later proofs cite these and unfold no step function. -/

namespace Sys2Proof.Machine

theorem mxLoopStep_cases {s t : State} (h : mxLoopStep s = .next t) :
    (s.mxE = 0 ∧ t = completeWith s.mxR s) ∨ (s.mxE ≠ 0 ∧ s.mxM ≠ 0 ∧ t = modexpIterate s) := by
  unfold mxLoopStep at h
  split at h
  · exact .inl ⟨‹_›, by simpa using h.symm⟩
  · split at h
    · cases h
    · exact .inr ⟨‹_›, ‹_›, by simpa using h.symm⟩

theorem gcdLoopStep_cases {s t : State} (h : gcdLoopStep s = .next t) :
    (s.gcdB = 0 ∧ t = completeWith s.gcdA s) ∨ (s.gcdB ≠ 0 ∧ t = euclid s) := by
  unfold gcdLoopStep at h
  split at h
  · exact .inl ⟨‹_›, by simpa using h.symm⟩
  · exact .inr ⟨‹_›, by simpa using h.symm⟩

theorem initGcdStep_cases {s t : State} (h : initGcdStep s = .next t) :
    (s.gcdB = 0 ∧ s.gcdA = 1 ∧ t = completeWith 0 (validateGenerator s)) ∨
    (s.gcdB = 0 ∧ s.gcdA ≠ 1 ∧ t = raise .invalidSeed s) ∨ (s.gcdB ≠ 0 ∧ t = euclid s) := by
  unfold initGcdStep at h
  split at h
  · split at h
    · exact .inl ⟨‹_›, ‹_›, by simpa using h.symm⟩
    · exact .inr (.inl ⟨‹_›, ‹_›, by simpa using h.symm⟩)
  · exact .inr (.inr ⟨‹_›, by simpa using h.symm⟩)

theorem bbsSqStep_cases {s t : State} (h : bbsSqStep s = .next t) :
    s.bbsN ≠ 0 ∧ t = completeWith (lowBit (squareState s).bbsState) (squareState s) := by
  unfold bbsSqStep at h
  split at h
  · cases h
  · exact ⟨‹_›, by simpa using h.symm⟩

/-- All that a CORE step can do. -/
theorem coreStep_cases {s t : State} (h : coreStep s = .next t) :
    (s.phase = .idle ∧ t = s) ∨
    (s.phase = .mxLoop ∧ s.mxE = 0 ∧ t = completeWith s.mxR s) ∨
    (s.phase = .mxLoop ∧ s.mxE ≠ 0 ∧ s.mxM ≠ 0 ∧ t = modexpIterate s) ∨
    (s.phase = .gcdLoop ∧ s.gcdB = 0 ∧ t = completeWith s.gcdA s) ∨
    ((s.phase = .gcdLoop ∨ s.phase = .initGcd) ∧ s.gcdB ≠ 0 ∧ t = euclid s) ∨
    (s.phase = .initGcd ∧ s.gcdB = 0 ∧ s.gcdA = 1 ∧ t = completeWith 0 (validateGenerator s)) ∨
    (s.phase = .initGcd ∧ s.gcdB = 0 ∧ s.gcdA ≠ 1 ∧ t = raise .invalidSeed s) ∨
    (s.phase = .bbsSq ∧ s.bbsN ≠ 0 ∧ t = completeWith (lowBit (squareState s).bbsState) (squareState s)) := by
  cases hp : s.phase <;> simp only [coreStep, hp] at h
  · exact .inl ⟨rfl, by simpa using h.symm⟩
  · rcases mxLoopStep_cases h with ⟨he, ht⟩ | ⟨he, hm, ht⟩
    · exact .inr (.inl ⟨rfl, he, ht⟩)
    · exact .inr (.inr (.inl ⟨rfl, he, hm, ht⟩))
  · rcases gcdLoopStep_cases h with ⟨hb, ht⟩ | ⟨hb, ht⟩
    · exact .inr (.inr (.inr (.inl ⟨rfl, hb, ht⟩)))
    · exact .inr (.inr (.inr (.inr (.inl ⟨.inl rfl, hb, ht⟩))))
  · rcases initGcdStep_cases h with ⟨hb, ha, ht⟩ | ⟨hb, ha, ht⟩ | ⟨hb, ht⟩
    · exact .inr (.inr (.inr (.inr (.inr (.inl ⟨rfl, hb, ha, ht⟩)))))
    · exact .inr (.inr (.inr (.inr (.inr (.inr (.inl ⟨rfl, hb, ha, ht⟩))))))
    · exact .inr (.inr (.inr (.inr (.inl ⟨.inr rfl, hb, ht⟩))))
  · exact .inr (.inr (.inr (.inr (.inr (.inr (.inr ⟨rfl, bbsSqStep_cases h⟩))))))

/-- The only ways a CORE step stops: a reduction modulo 0. -/
theorem coreStep_answers {s : State} (hm : s.phase = .mxLoop → s.mxM ≠ 0) (hn : s.phase = .bbsSq → s.bbsN ≠ 0) :
    ∃ t, coreStep s = .next t := by
  cases hp : s.phase <;> simp only [coreStep, hp]
  · exact ⟨_, rfl⟩
  · unfold mxLoopStep
    split
    · exact ⟨_, rfl⟩
    · exact ⟨_, if_neg (hm hp)⟩
  · unfold gcdLoopStep
    split <;> exact ⟨_, rfl⟩
  · unfold initGcdStep
    split
    · split <;> exact ⟨_, rfl⟩
    · exact ⟨_, rfl⟩
  · exact ⟨_, if_neg (hn hp)⟩

/-- All that an accept can do: every command answers a next state, from an idle block one of these. -/
theorem exec_idle_cases (i : Instr) {s : State} (hp : s.phase = .idle) :
    ∃ t, exec i s = .next t ∧
      ((i = .modexp ∧ s.arg2.toNat < 2 ∧ t = raise .invalidModulus (clearOutcome s)) ∨
       (i = .modexp ∧ 2 ≤ s.arg2.toNat ∧ t = loadModexp (clearOutcome s)) ∨
       (i = .gcd ∧ t = acceptGcd (clearOutcome s)) ∨
       (i = .bbsInit ∧ s.arg0.toNat < 2 ∧ t = raise .invalidModulus (dropGenerator (clearOutcome s))) ∨
       (i = .bbsInit ∧ 2 ≤ s.arg0.toNat ∧ ¬(2 ≤ s.arg1.toNat ∧ s.arg1.toNat + 2 ≤ s.arg0.toNat) ∧
         t = raise .invalidSeed (dropGenerator (clearOutcome s))) ∨
       (i = .bbsInit ∧ (2 ≤ s.arg1.toNat ∧ s.arg1.toNat + 2 ≤ s.arg0.toNat) ∧
         t = loadGenerator (dropGenerator (clearOutcome s))) ∨
       (i = .bbsNext ∧ s.bbsValid = true ∧ t = { clearOutcome s with phase := .bbsSq }) ∨
       (i = .bbsNext ∧ s.bbsValid = false ∧ t = raise .generatorNotReady (clearOutcome s))) := by
  cases i
  · refine ⟨_, rfl, ?_⟩
    rw [issue_idle _ hp]
    by_cases h : s.arg2.toNat < 2
    · exact .inl ⟨rfl, h, acceptModexp_raises h⟩
    · exact .inr (.inl ⟨rfl, by omega, acceptModexp_loads (s := clearOutcome s) (Nat.not_lt.mp h)⟩)
  · exact ⟨_, rfl, .inr (.inr (.inl ⟨rfl, issue_idle _ hp⟩))⟩
  · refine ⟨_, rfl, ?_⟩
    rw [issue_idle _ hp]
    by_cases h : s.arg0.toNat < 2
    · simp [acceptBbsInit_badModulus (s := clearOutcome s) h, h]
    · by_cases hr : 2 ≤ s.arg1.toNat ∧ s.arg1.toNat + 2 ≤ s.arg0.toNat
      · simp [acceptBbsInit_loads (s := clearOutcome s) hr, hr]
      · have h2 : 2 ≤ s.arg0.toNat := by omega
        exact .inr (.inr (.inr (.inr (.inl ⟨rfl, h2, hr, acceptBbsInit_badSeed (s := clearOutcome s) h2 hr⟩))))
  · refine ⟨_, rfl, ?_⟩
    rw [issue_idle _ hp]
    cases h : s.bbsValid
    · simp [acceptBbsNext_notReady (s := clearOutcome s) h]
    · simp [acceptBbsNext_ready (s := clearOutcome s) h]

/-- A busy block drops the word of every command. -/
theorem exec_busy (i : Instr) {s : State} (hp : s.phase ≠ .idle) : exec i s = .next (setOverrun s) := by
  cases i <;> exact congrArg Host.Outcome.next (issue_busy _ hp)

/-- All that a CMD write can do. -/
theorem writeCmd_cases (w : Word) (s : State) :
    (s.phase ≠ .idle ∧ writeCmd w s = .next (setOverrun s)) ∨
    (s.phase = .idle ∧ ∃ i, decode w = .ok i ∧ writeCmd w s = exec i s) ∨
    (s.phase = .idle ∧ (∃ e, decode w = .error e) ∧
      writeCmd w s = .next (raise .illegalCommand (clearOutcome s))) := by
  by_cases hp : s.phase = .idle
  · cases hd : decode w with
    | error e => exact .inr (.inr ⟨hp, ⟨e, rfl⟩, by simp [writeCmd, hd, issue_idle _ hp]⟩)
    | ok i => exact .inr (.inl ⟨hp, i, rfl, by simp [writeCmd, hd]⟩)
  · refine .inl ⟨hp, ?_⟩
    cases hd : decode w with
    | error e => simp [writeCmd, hd, issue_busy _ hp]
    | ok i => simp [writeCmd, hd, exec_busy i hp]

/-- All that a host event can do: touch only the host's own data, write an operand register, or write CMD. -/
theorem hostStep_cases {s t : State} (h : hostStep s = .next t) :
    (∃ ls rs cs bs, t = { s with lines := ls, reads := rs, calls := cs, bitseqs := bs }) ∨
    (∃ v rest, s.lines = .wr idxArg0 v :: rest ∧ t = setArg0 v (setLines rest s)) ∨
    (∃ v rest, s.lines = .wr idxArg1 v :: rest ∧ t = setArg1 v (setLines rest s)) ∨
    (∃ v rest, s.lines = .wr idxArg2 v :: rest ∧ t = setArg2 v (setLines rest s)) ∨
    (∃ w rest, s.lines = .wr idxCmd w :: rest ∧ writeCmd w (setLines rest s) = .next t) := by
  unfold hostStep at h
  split at h
  · exact .inl ⟨s.lines, s.reads, s.calls, s.bitseqs, (Host.Outcome.next.inj h).symm⟩
  · rename_i i v rest hl
    unfold regWrite slotOf at h
    by_cases h0 : i = idxArg0
    · exact .inr (.inl ⟨v, rest, h0 ▸ hl, by simpa [h0] using h.symm⟩)
    by_cases h1 : i = idxArg1
    · exact .inr (.inr (.inl ⟨v, rest, h1 ▸ hl, by simpa [h1] using h.symm⟩))
    by_cases h2 : i = idxArg2
    · exact .inr (.inr (.inr (.inl ⟨v, rest, h2 ▸ hl, by simpa [h2] using h.symm⟩)))
    by_cases h3 : i = idxCmd
    · exact .inr (.inr (.inr (.inr ⟨v, rest, h3 ▸ hl, by simpa [h3] using h⟩)))
    rw [if_neg h0, if_neg h1, if_neg h2, if_neg h3] at h
    refine .inl ⟨rest, s.reads, s.calls, s.bitseqs, ?_⟩
    split_ifs at h <;> exact (Host.Outcome.next.inj h).symm
  · exact .inl ⟨_, _, s.calls, s.bitseqs, (Host.Outcome.next.inj h).symm⟩
  · split at h <;> exact .inl ⟨_, _, s.calls, s.bitseqs, (Host.Outcome.next.inj h).symm⟩
  · exact .inl ⟨_, s.reads, _, s.bitseqs, (Host.Outcome.next.inj h).symm⟩
  · exact .inl ⟨_, s.reads, s.calls, _, (Host.Outcome.next.inj h).symm⟩
  · exact .inl ⟨_, s.reads, s.calls, s.bitseqs, (Host.Outcome.next.inj h).symm⟩
  · obtain rfl := Host.Outcome.next.inj h
    unfold afterBit
    split
    · exact .inl ⟨_, s.reads, s.calls, s.bitseqs, rfl⟩
    · exact .inl ⟨_, s.reads, s.calls, _, rfl⟩

/-- Every host event answers a next state. -/
theorem hostStep_answers (s : State) : ∃ t, hostStep s = .next t := by
  unfold hostStep
  split
  · exact ⟨_, rfl⟩
  · rename_i i v rest _
    unfold regWrite
    split
    case _ => exact ⟨_, rfl⟩
    case _ => exact ⟨_, rfl⟩
    case _ => exact ⟨_, rfl⟩
    case _ =>
      unfold writeCmd
      split
      · rename_i c _
        cases c <;> exact ⟨_, rfl⟩
      · exact ⟨_, rfl⟩
    all_goals exact ⟨_, rfl⟩
  · exact ⟨_, rfl⟩
  · split <;> exact ⟨_, rfl⟩
  all_goals exact ⟨_, rfl⟩

/-- The host's test after a call that succeeded appends the bit. -/
theorem afterBit_ok {n : Nat} {out : List Bool} {p : CallResult} {rest : List HostLine} {s : State} (h : p.err = 0) :
    afterBit n out p rest s = setLines (.bitseq n (out ++ [bitOf p.result]) :: rest) s := if_pos h

/-- The host's test after a call that failed returns its error. -/
theorem afterBit_error {n : Nat} {out : List Bool} {p : CallResult} {rest : List HostLine} {s : State}
    (h : p.err ≠ 0) : afterBit n out p rest s = returnBitseq (.error p.err) (setLines rest s) := if_neg h

/-- The pair of a CALL that has read STATUS and then RESULT is made of these two values. -/
theorem callPair_of_reads {s : State} {v r : Word} {older : List ReadRecord}
    (h : s.reads = ⟨idxResult, r⟩ :: ⟨idxStatus, v⟩ :: older) : callPair s = ⟨errOf v, r⟩ := by
  simp [callPair, lastRead, h]

/-- ERR as the host reads it from STATUS is ERR (R27). -/
theorem errOf_status (s : State) : errOf (statusWord s) = s.err := by
  have h := s.err.isLt
  apply BitVec.eq_of_toNat_eq
  rw [errOf, BitVec.extractLsb'_toNat, statusWord_toNat, Nat.shiftRight_eq_div_pow]
  cases busy s <;> cases s.done <;> cases s.bbsValid <;> cases s.ovr <;> simp <;> omega

/-- A step is one event: RESET, a CORE step or a host event, by whose turn it is. -/
theorem step_cases {s t : State} (h : step s = .next t) :
    (nextTurn s = .reset ∧ t = resetEvent (dropTurn s)) ∨
    (nextTurn s = .core ∧ coreStep (dropTurn s) = .next t) ∨
    (nextTurn s = .host ∧ hostStep (dropTurn s) = .next t) := by
  unfold step at h
  cases hn : nextTurn s <;> rw [hn] at h
  · exact .inr (.inr ⟨rfl, h⟩)
  · exact .inr (.inl ⟨rfl, h⟩)
  · exact .inl ⟨rfl, (Host.Outcome.next.inj h).symm⟩

/-! ### Runs of CORE steps -/

@[simp] theorem coreRun_zero (s : State) : coreRun 0 s = .next s := rfl

theorem coreRun_succ {n : Nat} {s t : State} (h : coreStep s = .next t) : coreRun (n + 1) s = coreRun n t := by
  simp [coreRun, h]

theorem coreRun_one {s t : State} (h : coreStep s = .next t) : coreRun 1 s = .next t := by
  simp [coreRun, h]

/-- A run of `m + n` CORE steps is one of `m` and then one of `n`. -/
theorem coreRun_add {m n : Nat} {s t : State} (h : coreRun m s = .next t) : coreRun (m + n) s = coreRun n t := by
  induction m generalizing s with
  | zero => simp_all [coreRun]
  | succ m ih =>
    rw [Nat.add_right_comm, coreRun]
    rw [coreRun] at h
    cases hc : coreStep s with
    | next r => rw [hc] at h; exact ih h
    | fault r => rw [hc] at h; cases h
    | refused r => rw [hc] at h; cases h

/-! ### Runs of the machine -/

@[simp] theorem runSteps_zero (s : State) : runSteps 0 s = .next s := rfl

theorem runSteps_succ {k : Nat} {s t : State} (h : step s = .next t) : runSteps (k + 1) s = runSteps k t := by
  have hs : Host.Core.step Sys2Proof.core s = Host.Outcome.next t := h
  simp only [runSteps, Host.Core.run]
  rw [hs]

/-- A run of at least one step that answers a next state takes a first step that does. -/
theorem runSteps_succ_cases {k : Nat} {s t : State} (h : runSteps (k + 1) s = .next t) :
    ∃ r, step s = .next r ∧ runSteps k r = .next t := by
  cases hs : step s with
  | next r => exact ⟨r, rfl, by rwa [runSteps_succ hs] at h⟩
  | fault r =>
    have hf : Host.Core.step Sys2Proof.core s = Host.Outcome.fault r := hs
    simp only [runSteps, Host.Core.run] at h
    rw [hf] at h
    cases h
  | refused r =>
    have hf : Host.Core.step Sys2Proof.core s = Host.Outcome.refused r := hs
    simp only [runSteps, Host.Core.run] at h
    rw [hf] at h
    cases h

end Sys2Proof.Machine
end

