-- ==== Sys2Proof/Laws/PerInstr.lean ====
section
/-! SUPPORT. Per-instruction laws: each command's word is legal (R74) and carries its opcode with RSV zero (R71, R73). -/

namespace Sys2Proof.Laws.LegalWord

/-- The word of `i` passes both checks of R74, and its fields are zero and the opcode of `i`. -/
def Statement (i : Instr) : Prop :=
  (fieldsOf (encode i)).legal = true ∧ (fieldsOf (encode i)).rsv = 0 ∧ (fieldsOf (encode i)).opc = opcodeOf i

theorem modexp : Statement .modexp := by unfold Statement; decide
theorem gcd : Statement .gcd := by unfold Statement; decide
theorem bbsInit : Statement .bbsInit := by unfold Statement; decide
theorem bbsNext : Statement .bbsNext := by unfold Statement; decide

end Sys2Proof.Laws.LegalWord
end

