-- ==== Sys2Proof/Tests/Slice0.lean ====
section
/-! SUPPORT. The model's own tests: the checks of WellFormed, decoding, one step of each instruction, and for each statement a state that meets its hypotheses. Every expected value is from spec/ (the place is in each comment). -/

namespace Sys2Proof.Tests

open Sys2Proof Sys2Proof.Machine

/-! ### WellFormed: an ill-formed word for each check (R74; vectors D1 to D6) -/

theorem test_reserved_bit_refused : (CmdWord.mk 1 0x01).reservedOk = false := by decide
theorem test_reserved_bit_illegal : (CmdWord.mk 1 0x01).legal = false := by decide
theorem test_opcode_zero_refused : (CmdWord.mk 0 0x00).opcodeOk = false := by decide
theorem test_opcode_five_illegal : (CmdWord.mk 0 0x05).legal = false := by decide
theorem test_opcode_one_legal : (CmdWord.mk 0 0x01).legal = true := by decide

/-! ### Decoding: each constructor's word bit by bit, from the table of R73 -/

theorem test_decode_modexp :
    decode 0b0000000000000000000000000000000000000000000000000000000000000001 = .ok .modexp := by decide
theorem test_decode_gcd :
    decode 0b0000000000000000000000000000000000000000000000000000000000000010 = .ok .gcd := by decide
theorem test_decode_bbsInit :
    decode 0b0000000000000000000000000000000000000000000000000000000000000011 = .ok .bbsInit := by decide
theorem test_decode_bbsNext :
    decode 0b0000000000000000000000000000000000000000000000000000000000000100 = .ok .bbsNext := by decide

/-- D1: word 0 is reserved. -/
theorem test_decode_zero : decode 0x0 = .error .reservedOpcode := by decide
/-- D4: bit 8 set although OPC = 0x01. -/
theorem test_decode_bit8 : decode 0x101 = .error .reservedBits := by decide
/-- D5: bit 63 set although OPC = 0x02. -/
theorem test_decode_bit63 : decode 0x8000000000000002 = .error .reservedBits := by decide
/-- R52: least-significant byte at the lowest address. -/
theorem test_decode_bytes : decodeBytes [0x03, 0, 0, 0, 0, 0, 0, 0] = .ok .bbsInit := by decide
/-- R56: seven bytes are no transaction. -/
theorem test_decode_short : decodeBytes [0x03, 0, 0, 0, 0, 0, 0] = .error .notOneWord := by decide
theorem test_table_word : decodeTableWord 64 4 = some .bbsNext := by decide
theorem test_table_word_illegal : decodeTableWord 64 5 = none := by decide

/-! ### States -/

/-- Idle after reset, with these operands. -/
def idleWith (a b m : Word) : State := { State.reset with arg0 := a, arg1 := b, arg2 := m }

/-- Idle with the valid generator (253, 3) of vector B1. -/
def withGenerator : State := { State.reset with done := true, bbsValid := true, bbsN := 253, bbsState := 3 }

/-- MODEXP just accepted, as R92's example. -/
def inModexp : State := { State.reset with phase := .mxLoop, mxM := 497, mxR := 1, mxB := 4, mxE := 13 }

/-- GCD running on a pair. -/
def inGcd (a b : Word) : State := { State.reset with phase := .gcdLoop, gcdA := a, gcdB := b }

/-- BBS_INIT running on (N, seed) with Euclid at a pair. -/
def inInit (n x a b : Word) : State :=
  { State.reset with phase := .initGcd, bbsN := n, bbsState := x, gcdA := a, gcdB := b }

/-- A host that has just read STATUS and then RESULT, with these lines left. -/
def afterCall (lines : List HostLine) (status result : Word) : State :=
  { State.reset with lines := lines, reads := [⟨5, result⟩, ⟨4, status⟩] }

/-- The next state, through some view of it. -/
def after {α : Type} (o : Host.Outcome State Fault Refusal) (view : State → α) : Option α :=
  (nextState? o).map view

/-! ### The multiplier (R13, vector M12) -/

theorem test_mulmod_wide :
    mulmod 0xFFFFFFFFFFFFFFFE 0xFFFFFFFFFFFFFFFE 0xFFFFFFFFFFFFFFFF = 1 := by decide
theorem test_product_wide :
    product 0xFFFFFFFFFFFFFFFE 0xFFFFFFFFFFFFFFFE = 0xFFFFFFFFFFFFFFFC0000000000000004 := by decide

/-! ### MODEXP -/

/-- R92, the example. -/
theorem test_modexp_accept :
    after (exec .modexp (idleWith 4 13 497)) (fun t => (t.mxR, t.mxB, t.mxE, t.mxM, t.phase))
      = some (1, 4, 13, 497, .mxLoop) := by decide
/-- M30: modulus 1 is InvalidModulus, STATUS 0x12. -/
theorem test_modexp_modulus_one :
    after (exec .modexp (idleWith 4 13 1)) (fun t => (t.result, regRead idxStatus t)) = some (0, 0x12) := by decide
/-- R93, the example: one step gives MX_R = 4, MX_B = 16, MX_E = 6. -/
theorem test_modexp_step :
    after (coreStep inModexp) (fun t => (t.mxR, t.mxB, t.mxE, t.acc)) = some (4, 16, 6, 16) := by decide
/-- R99, step 5: RESULT 445. -/
theorem test_modexp_completes :
    after (coreStep { inModexp with mxR := 445, mxB := 151, mxE := 0 })
      (fun t => (t.result, regRead idxStatus t)) = some (445, 0x02) := by decide

/-! ### GCD -/

/-- R112, the example. -/
theorem test_gcd_accept :
    after (exec .gcd (idleWith 48 18 0)) (fun t => (t.gcdA, t.gcdB, regRead idxStatus t))
      = some (48, 18, 0x01) := by decide
/-- R113, the example, and R114: `a < b` swaps. -/
theorem test_gcd_step : after (coreStep (inGcd 48 18)) (fun t => (t.gcdA, t.gcdB)) = some (18, 12) := by decide
theorem test_gcd_swap : after (coreStep (inGcd 18 48)) (fun t => (t.gcdA, t.gcdB)) = some (48, 18) := by decide

/-! ### BBS_INIT -/

/-- R122, the example. -/
theorem test_bbsInit_accept :
    after (exec .bbsInit { withGenerator with arg0 := 253, arg1 := 3 })
      (fun t => (t.bbsValid, t.bbsN, t.bbsState, t.gcdA, t.gcdB)) = some (false, 253, 3, 3, 253) := by decide
/-- B8: seed N - 1 is InvalidSeed, and the old generator is gone (STATUS 0x42). -/
theorem test_bbsInit_range :
    after (exec .bbsInit { withGenerator with arg0 := 253, arg1 := 252 }) (fun t => regRead idxStatus t)
      = some 0x42 := by decide
/-- R123: gcd 1 makes it valid, STATUS 0x06. -/
theorem test_bbsInit_valid :
    after (coreStep (inInit 253 3 1 0)) (fun t => (t.result, regRead idxStatus t)) = some (0, 0x06) := by decide
/-- B10: gcd 11 is InvalidSeed, and RESULT is not the gcd. -/
theorem test_bbsInit_notCoprime :
    after (coreStep (inInit 253 22 11 0)) (fun t => (t.result, regRead idxStatus t)) = some (0, 0x42) := by decide

/-! ### BBS_NEXT -/

/-- N5: no valid generator, STATUS 0x52. -/
theorem test_bbsNext_notReady :
    after (exec .bbsNext State.reset) (fun t => (t.result, regRead idxStatus t)) = some (0, 0x52) := by decide
/-- S6: state 81 modulo 253 goes to 236, whose bit is 0 (that of 81 is 1). -/
theorem test_bbsNext_step :
    after (coreStep { withGenerator with phase := .bbsSq, bbsState := 81 })
      (fun t => (t.acc, t.bbsState, t.result)) = some (6561, 236, 0) := by decide

/-! ### Host transactions and the step -/

/-- D7: an illegal word leaves the generator; STATUS 0x66. -/
theorem test_illegal_word :
    after (regWrite idxCmd 0 withGenerator) (fun t => (regRead idxStatus t, t.bbsState)) = some (0x66, 3) := by decide
/-- D9: a busy block drops an illegal word too; no error. -/
theorem test_busy_drops :
    after (regWrite idxCmd 0 inModexp) (fun t => (t.ovr, t.err, t.phase)) = some (true, 0, .mxLoop) := by decide
/-- D13: an operand write while busy. -/
theorem test_operand_write_while_busy :
    after (regWrite idxArg0 7 inModexp) (fun t => (t.arg0, t.mxB)) = some (7, 4) := by decide
/-- D12: writes to RESULT have no effect. -/
theorem test_result_write_ignored : after (regWrite idxResult 7 State.reset) (fun t => t.result) = some 0 := by decide
/-- D11: R15 reads 0. -/
theorem test_reserved_reads_zero : regRead 15 withGenerator = 0 := by decide
/-- D14: STATUS after reset is 0. -/
theorem test_status_after_reset : regRead idxStatus State.reset = 0 := by decide
/-- The first step after reset runs the placed word: BBS_NEXT raises GeneratorNotReady (P4, line 1). -/
theorem test_fetch_word_runs : after (step (State.reset.withFetchWord 64 4)) (fun t => t.err) = some 5 := by decide
/-- R190: RESET during a command. -/
theorem test_reset_event :
    after (step { inModexp with turns := [.reset] }) (fun t => (t.phase, regRead idxStatus t))
      = some (.idle, 0) := by decide

/-- R80: a CALL yields ERR, bits 7 to 4 of STATUS (N5: 0x52), and RESULT. -/
theorem test_call_pair :
    after (hostStep (afterCall [.yieldPair] 0x52 0)) (fun t => (t.calls, t.lines)) = some ([⟨5, 0⟩], []) := by decide
/-- R142: bit 0 of an even RESULT is appended after the bits before it, and the BITSEQ goes on. -/
theorem test_bitseq_appends :
    after (hostStep (afterCall [.bitseqRest 2 [true]] 0x06 236)) (fun t => (t.lines, t.bitseqs))
      = some ([.bitseq 2 [true, false]], []) := by decide
/-- R142: an error ends the BITSEQ and is what it returns. -/
theorem test_bitseq_error :
    after (hostStep (afterCall [.bitseqRest 2 []] 0x52 0)) (fun t => (t.lines, t.bitseqs))
      = some ([], [.error 5]) := by decide

/-! ### Witnesses: for each statement with hypotheses, what meets them, at the edges of its clauses -/

theorem witness_StepRunsTheWrittenCommand :
    let s : State := { State.reset with lines := [.wr idxCmd 2] }
    nextTurn s = .host ∧ s.lines = .wr idxCmd 2 :: [] ∧ decode 2 = .ok .gcd := by decide

theorem witness_StepIsOneEventOfOneAgent :
    ({ State.reset with turns := [.core] } : State).turns = .core :: [] ∧
    ({ State.reset with turns := [.host] } : State).turns = .host :: [] ∧
    ({ State.reset with turns := [.reset] } : State).turns = .reset :: [] ∧
    (inModexp.turns = [] ∧ inModexp.phase ≠ .idle) ∧ (State.reset.turns = [] ∧ State.reset.phase = .idle) := by
  decide

/-- The edges of both clauses: moduli 1 and 2 (also for ModexpComputesThePower). -/
theorem witness_ModexpAccept :
    ((idleWith 4 13 1).phase = .idle ∧ (idleWith 4 13 1).arg2.toNat < 2) ∧
    ((idleWith 4 13 2).phase = .idle ∧ 2 ≤ (idleWith 4 13 2).arg2.toNat) := by decide

/-- Both clauses, and the smallest modulus. -/
theorem witness_ModexpLoopStep :
    (inModexp.phase = .mxLoop ∧ 2 ≤ inModexp.mxM.toNat ∧ inModexp.mxE ≠ 0) ∧
    (let s : State := { inModexp with mxM := 2, mxB := 0, mxE := 0 }
     s.phase = .mxLoop ∧ 2 ≤ s.mxM.toNat ∧ s.mxE = 0) := by decide

theorem witness_ModexpLoopKeepsTheResidue :
    ((idleWith 4 13 2).phase = .idle ∧ 2 ≤ (idleWith 4 13 2).arg2.toNat) ∧
    inModexp.phase = .mxLoop ∧ ModexpInv inModexp ∧ ∃ t, coreStep inModexp = .next t :=
  ⟨by decide, by decide, by decide, _, rfl⟩

/-- For GcdAccept and GcdComputesTheGreatestCommonDivisor. -/
theorem witness_GcdAccept : (idleWith 48 18 0).phase = .idle := by decide

theorem witness_GcdLoopStep :
    ((inGcd 5 0).phase = .gcdLoop ∧ (inGcd 5 0).gcdB = 0) ∧
    ((inGcd 48 18).phase = .gcdLoop ∧ (inGcd 48 18).gcdB ≠ 0) := by decide

/-- The edges: N = 1; N = 2 and 3 with the range empty; seeds 1, N - 1 outside and 2, N - 2 inside for N = 5. -/
theorem witness_BbsInitAccept :
    ((idleWith 1 0 0).phase = .idle ∧ (idleWith 1 0 0).arg0.toNat < 2) ∧
    (2 ≤ (idleWith 2 1 0).arg0.toNat ∧ (idleWith 2 1 0).arg1.toNat < 2) ∧
    (2 ≤ (idleWith 3 2 0).arg0.toNat ∧ (idleWith 3 2 0).arg0.toNat < (idleWith 3 2 0).arg1.toNat + 2) ∧
    (2 ≤ (idleWith 5 4 0).arg0.toNat ∧ (idleWith 5 4 0).arg0.toNat < (idleWith 5 4 0).arg1.toNat + 2) ∧
    (2 ≤ (idleWith 5 2 0).arg1.toNat ∧ (idleWith 5 2 0).arg1.toNat + 2 ≤ (idleWith 5 2 0).arg0.toNat) ∧
    (2 ≤ (idleWith 5 3 0).arg1.toNat ∧ (idleWith 5 3 0).arg1.toNat + 2 ≤ (idleWith 5 3 0).arg0.toNat) := by decide

theorem witness_BbsInitCoprimalityStep :
    ((inInit 253 3 1 0).phase = .initGcd ∧ (inInit 253 3 1 0).gcdB = 0 ∧ (inInit 253 3 1 0).gcdA = 1) ∧
    ((inInit 4 2 2 0).gcdB = 0 ∧ (inInit 4 2 2 0).gcdA ≠ 1) ∧ (inInit 253 3 3 253).gcdB ≠ 0 := by decide

/-- The range of BbsInitBuildsTheGenerator with a coprime seed (N = 5, seed 2) and one that is not (N = 4, seed 2). -/
theorem witness_BbsInitBuildsTheGenerator :
    ((idleWith 5 2 0).phase = .idle ∧ 2 ≤ (idleWith 5 2 0).arg1.toNat ∧
      (idleWith 5 2 0).arg1.toNat + 2 ≤ (idleWith 5 2 0).arg0.toNat ∧
      Nat.gcd (idleWith 5 2 0).arg1.toNat (idleWith 5 2 0).arg0.toNat = 1) ∧
    ((idleWith 4 2 0).arg1.toNat + 2 ≤ (idleWith 4 2 0).arg0.toNat ∧
      Nat.gcd (idleWith 4 2 0).arg1.toNat (idleWith 4 2 0).arg0.toNat ≠ 1) := by decide

theorem witness_BbsNextAccept :
    (withGenerator.phase = .idle ∧ withGenerator.bbsValid = true) ∧
    (State.reset.phase = .idle ∧ State.reset.bbsValid = false) := by decide

theorem witness_BbsSquaringStep :
    let s : State := { withGenerator with phase := .bbsSq, done := false }
    s.phase = .bbsSq ∧ s.bbsN ≠ 0 := by decide

theorem witness_BbsNextEmitsTheLowBit :
    withGenerator.phase = .idle ∧ withGenerator.bbsValid = true ∧ withGenerator.bbsN ≠ 0 := by decide

theorem witness_BitStreamIsTheRepeatedSquare :
    (idleWith 253 3 0).phase = .idle ∧ 2 ≤ (idleWith 253 3 0).arg1.toNat ∧
    (idleWith 253 3 0).arg1.toNat + 2 ≤ (idleWith 253 3 0).arg0.toNat ∧
    Nat.gcd (idleWith 253 3 0).arg1.toNat (idleWith 253 3 0).arg0.toNat = 1 ∧ 1 ≤ 1 := by decide

/-- A BBS_INIT accept changes BBS_N and BBS_STATE and ends a valid generator. -/
theorem witness_GeneratorLifetime_accept :
    ∃ t : State, step { withGenerator with arg0 := 5, arg1 := 2, lines := [.wr idxCmd 3] } = .next t ∧
      t.bbsN ≠ withGenerator.bbsN ∧ t.bbsState ≠ withGenerator.bbsState ∧ t.bbsValid = false :=
  ⟨_, rfl, by decide, by decide, by decide⟩

/-- A squaring changes BBS_STATE; the last INIT_GCD step makes a generator valid. -/
theorem witness_GeneratorLifetime_core :
    (∃ t : State, step { withGenerator with phase := .bbsSq } = .next t ∧ t.bbsState ≠ withGenerator.bbsState) ∧
    (∃ t : State, step (inInit 5 2 1 0) = .next t ∧ t.bbsValid = true) :=
  ⟨⟨_, rfl, by decide⟩, ⟨_, rfl, by decide⟩⟩

theorem witness_IllegalWordRaises :
    ((0 : Word).toNat = 0 ∧ 5 ≤ (5 : Word).toNat) ∧ State.reset.phase = .idle ∧ inModexp.phase ≠ .idle := by decide

/-- All three parts of BusyBlockDropsTheWord. -/
theorem witness_BusyBlockDropsTheWord :
    inModexp.phase ≠ .idle ∧
    ∃ t : State, ({ inModexp with ovr := true } : State).ovr = true ∧
      step { inModexp with ovr := true } = .next t ∧ nextTurn { inModexp with ovr := true } ≠ .reset :=
  ⟨by decide, _, rfl, rfl, by decide⟩

/-- Both ends of AcceptEndsOrStarts: an illegal word and a GCD. -/
theorem witness_AcceptEndsOrStarts :
    after (regWrite idxCmd 0 State.reset) (fun t => busy t) = some false ∧
    after (regWrite idxCmd 2 State.reset) (fun t => busy t) = some true := by decide

/-- A step exists, one that raises and one that clears ERR. -/
theorem witness_StepProducesOnlyTheListedErrorCodes :
    after (step (State.reset.withFetchWord 64 0)) (fun t => t.err) = some 6 ∧
    after (step (({ State.reset with err := 6, done := true } : State).withFetchWord 64 2)) (fun t => t.err)
      = some 0 := by decide

theorem witness_RegReadReturnsTheMap :
    ({ State.reset with lines := [.rd 6] } : State).lines = .rd 6 :: [] ∧ 6 ≤ (6 : RegIndex).toNat ∧
    6 ≤ (15 : RegIndex).toNat := by decide

theorem witness_RegWriteFollowsTheMap :
    ({ State.reset with lines := [.wr 3 2] } : State).lines = .wr 3 2 :: [] ∧
    State.reset.phase = .idle ∧ (2 : Word) = encode .gcd ∧
    ((0 : Word) ≠ encode .modexp ∧ (0 : Word) ≠ encode .gcd ∧ (0 : Word) ≠ encode .bbsInit ∧
      (0 : Word) ≠ encode .bbsNext) ∧
    ({ inModexp with lines := [.wr 3 2] } : State).phase ≠ .idle ∧
    4 ≤ (4 : RegIndex).toNat ∧ 4 ≤ (15 : RegIndex).toNat := by decide

theorem witness_WaitPollsUntilIdle :
    ({ inModexp with lines := [.wait] } : State).lines = .wait :: [] ∧
    ({ inModexp with lines := [.wait] } : State).phase ≠ .idle ∧ State.reset.phase = .idle := by decide

/-- Each clause of BitseqCallsBbsNext; the test with STATUS 0x06 (no error) and 0x52 (GeneratorNotReady). -/
theorem witness_BitseqCallsBbsNext :
    ({ State.reset with lines := [.bitseq 0 [true]] } : State).lines = .bitseq 0 [true] :: [] ∧
    ({ State.reset with lines := [.bitseq 1 []] } : State).lines = .bitseq (0 + 1) [] :: [] ∧
    ({ State.reset with lines := [.bitseqRest 2 []] } : State).lines = .bitseqRest 2 [] :: [] ∧
    (afterCall [] 0x06 1).reads = ⟨5, 1⟩ :: ⟨4, 0x06⟩ :: [] ∧
    (0x06 : Word).extractLsb' 4 4 = (0 : ErrCode) ∧ (0x52 : Word).extractLsb' 4 4 ≠ (0 : ErrCode) := by decide

theorem witness_CallYieldsItsPair :
    (afterCall [.yieldPair] 0x02 445).lines = .yieldPair :: [] ∧
    (afterCall [.yieldPair] 0x02 445).reads = ⟨5, 445⟩ :: ⟨4, 0x02⟩ :: [] := by decide

theorem witness_CallYieldsTheOutcomeOfItsCommand :
    let s : State := { State.reset with turns := [.core, .host], lines := callLines .gcd }
    StateInv s ∧ s.phase = .idle ∧ Turn.reset ∉ s.turns ∧
    s.lines = .wr 3 (encode .gcd) :: .wait :: .rd 4 :: .rd 5 :: .yieldPair :: [] :=
  ⟨by decide, by decide, by decide, by decide⟩

/-- With and without a valid generator, and BITSEQ 0. -/
theorem witness_BitseqReturnsTheBitsInCallOrder :
    (let s : State := { withGenerator with turns := [.core, .host], lines := [.bitseq 2 []] }
     s.phase = .idle ∧ Turn.reset ∉ s.turns ∧ s.lines = .bitseq 2 [] :: [] ∧ s.bbsValid = true ∧ s.bbsN ≠ 0) ∧
    (let s : State := { State.reset with lines := [.bitseq 1 []] }
     s.phase = .idle ∧ Turn.reset ∉ s.turns ∧ s.lines = .bitseq 1 [] :: [] ∧ s.bbsValid = false) ∧
    ({ State.reset with lines := [.bitseq 0 []] } : State).lines = .bitseq 0 [] :: [] := by decide

/-- Two blocks that differ in private state only. -/
theorem witness_PrivateStateIsUnreadable :
    SameVisible withGenerator { withGenerator with bbsState := 9, bbsN := 77, mxR := 5, acc := 4 } := by decide

theorem witness_OperandsChangeOnlyByHostWrites :
    ∃ t : State, step { State.reset with lines := [.wr idxArg0 7] } = .next t ∧ t.arg0 ≠ State.reset.arg0 :=
  ⟨_, rfl, by decide⟩

/-- Leaving IDLE by an accept, and returning to it by a completing step. -/
theorem witness_PhaseChangesOnlyAsListed :
    after (step { State.reset with lines := [.wr idxCmd 2] }) (fun t => t.phase) = some .gcdLoop ∧
    after (step (inGcd 6 0)) (fun t => t.phase) = some .idle := by decide

/-- An accept that raises and one that does not. -/
theorem witness_AcceptFrame :
    after (exec .bbsNext State.reset) (fun t => t.err) = some 5 ∧
    after (exec .gcd State.reset) (fun t => t.err) = some 0 := by decide

theorem witness_CoreStepFrame :
    after (coreStep (inGcd 48 18)) (fun t => t.phase) = some .gcdLoop ∧
    after (coreStep (inGcd 6 0)) (fun t => t.phase) = some .idle := by decide

theorem witness_OutcomeStaysUntilTheNextCommand :
    let s : State := { State.reset with done := true, result := 6, lines := [.wr idxArg0 7] }
    s.phase = .idle ∧ (∃ t, step s = .next t) ∧ nextTurn s ≠ .reset ∧
    ∀ w : Word, nextTurn s = .host → s.lines.head? ≠ some (.wr idxCmd w) :=
  ⟨rfl, ⟨_, rfl⟩, by decide, fun w _ h => by simp at h⟩

theorem witness_HostDoesNotDisturbARunningCommand :
    ({ inModexp with lines := [.wr idxCmd 2] } : State).phase ≠ .idle := by decide

/-- A busy block, a host turn and a CORE turn: two steps, busy before each. -/
theorem witness_InterleavingDoesNotChangeTheCommand :
    let s : State := { inGcd 48 18 with turns := [.host, .core], lines := [.wr idxCmd 2] }
    Turn.reset ∉ s.turns ∧
    (∀ (j : Nat) (r : State), j < 2 → runSteps j s = .next r → r.phase ≠ .idle) ∧
    ∃ t, runSteps 2 s = .next t := by
  refine ⟨by decide, ?_, _, rfl⟩
  intro j r hj h
  match j, hj with
  | 0, _ => cases h; decide
  | 1, _ => cases h; decide

/-- A state of the invariant in each busy phase; also for StepKeepsTheInvariant and MachineNeverStops. -/
theorem witness_EveryRunningCommandCompletes :
    (StateInv inModexp ∧ inModexp.phase ≠ .idle) ∧ (StateInv (inGcd 48 18) ∧ (inGcd 48 18).phase ≠ .idle) ∧
    (StateInv (inInit 253 3 3 253) ∧ (inInit 253 3 3 253).phase ≠ .idle) ∧
    (StateInv { withGenerator with phase := .bbsSq, done := false } ∧ Phase.bbsSq ≠ .idle) :=
  ⟨⟨by decide, by decide⟩, ⟨by decide, by decide⟩, ⟨by decide, by decide⟩, ⟨by decide, by decide⟩⟩

theorem witness_StepKeepsTheInvariant :
    StateInv withGenerator ∧ ∃ t, step withGenerator = .next t := ⟨by decide, _, rfl⟩

/-- A state, which no run reaches, whose CORE step divides by zero. -/
theorem witness_FaultOnlyForAZeroDivisor :
    coreStep { inModexp with mxM := 0 } = .fault .zeroModulus := by rfl

end Sys2Proof.Tests
end

section
/-! PROOFS. The statements of `10_state.md`: STATUS (R27) and the reset table (R40). -/

namespace Sys2Proof.Machine

/-! ### STATUS, bit by bit -/

theorem regRead_status (s : State) : regRead idxStatus s = statusWord s := rfl

theorem regWrite_status (v : Word) (s : State) : regWrite idxStatus v s = .next s := rfl

/-- R27's sum has no carries: STATUS is ERR with the four flags put below it, one bit each. -/
theorem statusWord_toNat_eq_bit (s : State) :
    (statusWord s).toNat =
      Nat.bit (busy s) (Nat.bit s.done (Nat.bit s.bbsValid (Nat.bit s.ovr s.err.toNat))) := by
  rw [statusWord_toNat]
  simp only [Nat.bit_val]
  omega

/-- STATUS bits 0 to 3. -/
theorem statusWord_flags (s : State) :
    (statusWord s).getLsbD 0 = busy s ∧ (statusWord s).getLsbD 1 = s.done ∧
    (statusWord s).getLsbD 2 = s.bbsValid ∧ (statusWord s).getLsbD 3 = s.ovr := by
  simp only [BitVec.getLsbD, statusWord_toNat_eq_bit, Nat.testBit_bit_zero, Nat.testBit_bit_succ, and_self]

/-- STATUS bits from 4 up are those of ERR. -/
theorem statusWord_getLsbD_add_four (s : State) (i : Nat) : (statusWord s).getLsbD (i + 4) = s.err.getLsbD i := by
  simp only [BitVec.getLsbD, statusWord_toNat_eq_bit, Nat.testBit_bit_succ]

/-- ERR has 4 bits, so nothing of STATUS is left above bit 7. -/
theorem statusWord_high_zero (s : State) : (statusWord s).extractLsb' 8 56 = 0 := by
  apply BitVec.eq_of_getLsbD_eq
  intro i _
  have hbit : (statusWord s).getLsbD (8 + i) = s.err.getLsbD (i + 4) := by
    rw [← statusWord_getLsbD_add_four, Nat.add_comm 8 i]
  rw [BitVec.getLsbD_extractLsb', hbit, BitVec.getLsbD_of_ge _ _ (Nat.le_add_left 4 i)]
  simp

/-- Settles O25. The flags and the zero bits are read off `statusWord_toNat_eq_bit`, ERR by `errOf_status`. -/
theorem statusIsTheFlags : Obligations.StatusIsTheFlags := by
  intro s
  obtain ⟨hbusy, hdone, hvalid, hovr⟩ := statusWord_flags s
  exact ⟨statusWord_toNat s, busy_iff s, hbusy, hdone, hvalid, hovr, errOf_status s, statusWord_high_zero s, rfl,
    fun v => regWrite_status v s⟩

/-! ### RESET -/

@[simp] theorem runTurn_reset (s : State) : runTurn .reset s = .next (resetEvent s) := rfl

/-- With BUSY, DONE, BBS_VALID, OVR and ERR all clear STATUS reads 0 (R27). -/
theorem regRead_status_eq_zero {s : State} (hphase : s.phase = .idle) (hdone : s.done = false)
    (hvalid : s.bbsValid = false) (hovr : s.ovr = false) (herr : s.err = 0) :
    regRead idxStatus s = 0 := by
  rw [regRead_status]
  simp [statusWord, busy, hphase, hdone, hvalid, hovr, herr]

/-- Settles O39: `resetEvent` and `State.reset` write R40's values field by field, and STATUS of cleared flags is 0. -/
theorem resetClearsTheBlock : Obligations.ResetClearsTheBlock := by
  intro s
  refine ⟨resetEvent s, runTurn_reset s, ?_⟩
  rintro r (rfl | rfl)
  · exact ⟨rfl, rfl, rfl, rfl, rfl, rfl, rfl, rfl, rfl, rfl, rfl, regRead_status_eq_zero rfl rfl rfl rfl rfl⟩
  · exact ⟨rfl, rfl, rfl, rfl, rfl, rfl, rfl, rfl, rfl, rfl, rfl, regRead_status_eq_zero rfl rfl rfl rfl rfl⟩

end Sys2Proof.Machine
end

section
/-! PROOFS. The statements of `20_memory.md`: the host's transactions over all 16 indices (R54, R55). -/

namespace Sys2Proof.Machine

/-! ### The register map -/

/-- Indices 6 to 15 are reserved (R39). -/
theorem slotOf_of_six_le : ∀ {i : RegIndex}, 6 ≤ i.toNat → slotOf i = .reserved := by decide

/-- From index 4 up no slot takes a write (R25, R27, R39). -/
theorem slotOf_of_four_le :
    ∀ {i : RegIndex}, 4 ≤ i.toNat → slotOf i = .status ∨ slotOf i = .result ∨ slotOf i = .reserved := by decide

theorem regRead_arg0 (s : State) : regRead idxArg0 s = s.arg0 := rfl

theorem regRead_arg1 (s : State) : regRead idxArg1 s = s.arg1 := rfl

theorem regRead_arg2 (s : State) : regRead idxArg2 s = s.arg2 := rfl

theorem regRead_cmd (s : State) : regRead idxCmd s = 0 := rfl

theorem regRead_result (s : State) : regRead idxResult s = s.result := rfl

theorem regRead_of_six_le {i : RegIndex} (hi : 6 ≤ i.toNat) (s : State) : regRead i s = 0 := by
  rw [regRead, slotOf_of_six_le hi]

theorem regWrite_arg0 (v : Word) (s : State) : regWrite idxArg0 v s = .next (setArg0 v s) := rfl

theorem regWrite_arg1 (v : Word) (s : State) : regWrite idxArg1 v s = .next (setArg1 v s) := rfl

theorem regWrite_arg2 (v : Word) (s : State) : regWrite idxArg2 v s = .next (setArg2 v s) := rfl

theorem regWrite_cmd (w : Word) (s : State) : regWrite idxCmd w s = writeCmd w s := rfl

theorem regWrite_of_four_le {i : RegIndex} (hi : 4 ≤ i.toNat) (v : Word) (s : State) :
    regWrite i v s = .next s := by
  rcases slotOf_of_four_le hi with h | h | h <;> rw [regWrite, h]

/-! ### A write of CMD -/

/-- The decoder undoes the encoder (R73). -/
theorem decode_encode (c : Instr) : decode (encode c) = .ok c := by cases c <;> rfl

/-- Only the encoding of a command decodes to it. -/
theorem eq_encode_of_decode {w : Word} {c : Instr} (h : decode w = .ok c) : w = encode c :=
  BitVec.eq_of_toNat_eq (decode_ok_toNat h)

theorem writeCmd_busy (w : Word) {s : State} (hp : s.phase ≠ .idle) : writeCmd w s = .next (setOverrun s) := by
  rcases writeCmd_cases w s with ⟨_, h⟩ | ⟨hi, _⟩ | ⟨hi, _⟩
  · exact h
  · exact absurd hi hp
  · exact absurd hi hp

theorem writeCmd_encode (c : Instr) (s : State) : writeCmd (encode c) s = exec c s := by
  rw [writeCmd, decode_encode]

/-- An accept that raises in an idle block changes RESULT, ERR and DONE only. -/
theorem raise_clearOutcome (e : ErrKind) {s : State} (hp : s.phase = .idle) :
    raise e (clearOutcome s) = { s with result := 0, err := errCode e, done := true } := by
  simp [raise, clearOutcome, hp]

theorem writeCmd_illegal {w : Word} (hw : ∀ c : Instr, w ≠ encode c) {s : State} (hp : s.phase = .idle) :
    writeCmd w s = .next { s with result := 0, err := 6, done := true } := by
  rcases writeCmd_cases w s with ⟨hb, _⟩ | ⟨_, c, hd, _⟩ | ⟨_, _, h⟩
  · exact absurd hp hb
  · exact absurd (eq_encode_of_decode hd) (hw c)
  · rw [h, raise_clearOutcome _ hp]
    rfl

/-! ### The host's lines -/

theorem hostStep_rd {s : State} {i : RegIndex} {rest : List HostLine} (h : s.lines = .rd i :: rest) :
    hostStep s = .next (recordRead i (setLines rest s)) := by
  rw [hostStep, h]

theorem hostStep_wr {s : State} {i : RegIndex} {v : Word} {rest : List HostLine} (h : s.lines = .wr i v :: rest) :
    hostStep s = regWrite i v (setLines rest s) := by
  rw [hostStep, h]

/-- Settles O26. The value recorded is `regRead` of the block, which `setLines` leaves as it was. -/
theorem regReadReturnsTheMap : Obligations.RegReadReturnsTheMap := by
  intro s i rest h
  refine ⟨regRead i s, hostStep_rd h, ?_, ?_, ?_, ?_, ?_, ?_, fun hi => regRead_of_six_le hi s⟩ <;> rintro rfl
  · exact regRead_arg0 s
  · exact regRead_arg1 s
  · exact regRead_arg2 s
  · exact regRead_cmd s
  · exact statusWord_toNat s
  · exact regRead_result s

/-- Settles O27. The line is one `regWrite`; at index 3 it is the CMD write, by the three cases of `writeCmd`. -/
theorem regWriteFollowsTheMap : Obligations.RegWriteFollowsTheMap := by
  intro s i v rest h
  rw [hostStep_wr h]
  refine ⟨?_, ?_, ?_, ?_, ?_, ?_, fun hi => regWrite_of_four_le hi v _⟩ <;> rintro rfl
  · exact regWrite_arg0 v _
  · exact regWrite_arg1 v _
  · exact regWrite_arg2 v _
  · exact fun hbusy => writeCmd_busy v (s := setLines rest s) hbusy
  · rintro - c rfl
    exact writeCmd_encode c _
  · exact fun hidle hv => writeCmd_illegal hv (s := setLines rest s) hidle

end Sys2Proof.Machine
end

section
/-! PROOFS. The statements of `30_encoding.md`: the legal words (R73, R74) and the word a busy block drops (R76). -/

namespace Sys2Proof.Machine

/-! ### What the decoder answers -/

theorem decode_ok_iff (w : Word) (c : Instr) : decode w = .ok c ↔ w = encode c :=
  ⟨eq_encode_of_decode, fun h => h ▸ decode_encode c⟩

theorem decode_ok_iff_toNat (w : Word) (c : Instr) : decode w = .ok c ↔ w.toNat = (encode c).toNat := by
  rw [decode_ok_iff, BitVec.toNat_inj]

/-- The four command words are 1 to 4 (R73). -/
theorem exists_eq_encode_iff (w : Word) : (∃ c, w = encode c) ↔ 1 ≤ w.toNat ∧ w.toNat ≤ 4 := by
  constructor
  · rintro ⟨c, rfl⟩
    cases c <;> decide
  · rintro ⟨hlow, hhigh⟩
    have hvalue : w.toNat = 1 ∨ w.toNat = 2 ∨ w.toNat = 3 ∨ w.toNat = 4 := by omega
    rcases hvalue with h | h | h | h
    · exact ⟨.modexp, BitVec.eq_of_toNat_eq h⟩
    · exact ⟨.gcd, BitVec.eq_of_toNat_eq h⟩
    · exact ⟨.bbsInit, BitVec.eq_of_toNat_eq h⟩
    · exact ⟨.bbsNext, BitVec.eq_of_toNat_eq h⟩

/-- RSV is what a word holds above its low 8 bits (R71). -/
theorem fieldsOf_rsv_eq_zero_iff (w : Word) : (fieldsOf w).rsv = 0 ↔ w.toNat < 256 := by
  have hrsv : (fieldsOf w).rsv.toNat = w.toNat / 256 := by
    have := w.isLt
    simp only [fieldsOf, BitVec.extractLsb'_toNat]
    omega
  rw [← BitVec.toNat_inj, hrsv]
  exact Nat.div_eq_zero_iff_lt (by decide)

/-- R75 checks the reserved bits first. -/
theorem decode_reservedBits_iff (w : Word) : decode w = .error .reservedBits ↔ (fieldsOf w).rsv ≠ 0 := by
  unfold decode
  split_ifs with hrsv
  · exact iff_of_true rfl hrsv
  all_goals exact iff_of_false nofun hrsv

/-- A whole word is never rejected for its length. -/
theorem decode_ne_notOneWord (w : Word) : decode w ≠ .error .notOneWord := by
  unfold decode
  split_ifs <;> simp

/-- The opcode is what remains to reject a word for: its reserved bits are zero and it is no command's word. -/
theorem decode_reservedOpcode_iff (w : Word) :
    decode w = .error .reservedOpcode ↔ (fieldsOf w).rsv = 0 ∧ ¬∃ c, w = encode c := by
  rcases hd : decode w with (_ | _ | _) | c
  · exact iff_of_false nofun fun ⟨hrsv, _⟩ => (decode_reservedBits_iff w).mp hd hrsv
  · have hrsv : (fieldsOf w).rsv = 0 := by
      by_contra hne
      exact absurd (hd.symm.trans ((decode_reservedBits_iff w).mpr hne)) nofun
    exact iff_of_true rfl ⟨hrsv, fun ⟨c, hc⟩ => absurd (hd.symm.trans ((decode_ok_iff w c).mpr hc)) nofun⟩
  · exact absurd hd (decode_ne_notOneWord w)
  · exact iff_of_false nofun fun ⟨_, hnone⟩ => hnone ⟨c, eq_encode_of_decode hd⟩

/-- Settles O1. The four words are the encodings; RSV zero is a value below 256, and the opcodes left below it are
those of no command. -/
theorem decodeAcceptsExactlyTheFourWords : Obligations.DecodeAcceptsExactlyTheFourWords := by
  intro w
  refine ⟨decode_ok_iff_toNat w .modexp, decode_ok_iff_toNat w .gcd, decode_ok_iff_toNat w .bbsInit,
    decode_ok_iff_toNat w .bbsNext, ?_, ?_⟩
  · rw [decode_reservedBits_iff, Ne, fieldsOf_rsv_eq_zero_iff, Nat.not_lt]
  · rw [decode_reservedOpcode_iff, fieldsOf_rsv_eq_zero_iff, exists_eq_encode_iff]
    omega

/-! ### OVR -/

/-- No CORE step touches OVR. -/
theorem coreStep_ovr {s t : State} (h : coreStep s = .next t) : t.ovr = s.ovr := by
  rcases coreStep_cases h with
    ⟨_, rfl⟩ | ⟨_, _, rfl⟩ | ⟨_, _, _, rfl⟩ | ⟨_, _, rfl⟩ | ⟨_, _, rfl⟩ | ⟨_, _, _, rfl⟩ | ⟨_, _, _, rfl⟩ | ⟨_, _, rfl⟩
  <;> rfl

/-- No accept touches OVR. -/
theorem exec_idle_ovr {c : Instr} {s t : State} (hp : s.phase = .idle) (h : exec c s = .next t) :
    t.ovr = s.ovr := by
  obtain ⟨u, hu, hcases⟩ := exec_idle_cases c hp
  obtain rfl : u = t := Host.Outcome.next.inj (hu.symm.trans h)
  rcases hcases with
    ⟨_, _, rfl⟩ | ⟨_, _, rfl⟩ | ⟨_, rfl⟩ | ⟨_, _, rfl⟩ | ⟨_, _, _, rfl⟩ | ⟨_, _, rfl⟩ | ⟨_, _, rfl⟩ | ⟨_, _, rfl⟩
  <;> rfl

/-- A CMD write sets OVR or leaves it as it was. -/
theorem writeCmd_keeps_ovr {w : Word} {s t : State} (hs : s.ovr = true) (h : writeCmd w s = .next t) :
    t.ovr = true := by
  rcases writeCmd_cases w s with ⟨_, hd⟩ | ⟨hp, c, _, hd⟩ | ⟨_, _, hd⟩ <;> rw [hd] at h
  · exact Host.Outcome.next.inj h ▸ rfl
  · exact (exec_idle_ovr hp h).trans hs
  · exact Host.Outcome.next.inj h ▸ hs

theorem hostStep_keeps_ovr {s t : State} (hs : s.ovr = true) (h : hostStep s = .next t) : t.ovr = true := by
  rcases hostStep_cases h with
    ⟨_, _, _, _, rfl⟩ | ⟨_, _, _, rfl⟩ | ⟨_, _, _, rfl⟩ | ⟨_, _, _, rfl⟩ | ⟨w, rest, _, hw⟩
  · exact hs
  · exact hs
  · exact hs
  · exact hs
  · exact writeCmd_keeps_ovr (s := setLines rest s) hs hw

/-- OVR is sticky: no event but RESET clears it. -/
theorem step_keeps_ovr {s t : State} (hs : s.ovr = true) (h : step s = .next t) (hn : nextTurn s ≠ .reset) :
    t.ovr = true := by
  rcases step_cases h with ⟨hr, _⟩ | ⟨_, hc⟩ | ⟨_, hh⟩
  · exact absurd hr hn
  · exact (coreStep_ovr hc).trans hs
  · exact hostStep_keeps_ovr (s := dropTurn s) hs hh

/-- Settles O22. The write and the command are dropped by `issue`'s busy branch; OVR is sticky in each agent's event. -/
theorem busyBlockDropsTheWord : Obligations.BusyBlockDropsTheWord :=
  ⟨fun s w hp => (regWrite_cmd w s).trans (writeCmd_busy w hp), fun _ c hp => exec_busy c hp,
    fun _ _ hs h hn => step_keeps_ovr hs h hn⟩

end Sys2Proof.Machine
end

section
/-! PROOFS. The statements of `40_modexp.md`: the accept (R92), the loop step (R93), its invariant (R95) and the whole
command (R91, R98). -/

namespace Sys2Proof.Machine

/-! ### The accept -/

theorem exec_modexp_raises {s : State} (hp : s.phase = .idle) (h : s.arg2.toNat < 2) :
    exec .modexp s = .next (raise .invalidModulus (clearOutcome s)) :=
  congrArg Host.Outcome.next ((issue_idle _ hp).trans (acceptModexp_raises (s := clearOutcome s) h))

theorem exec_modexp_loads {s : State} (hp : s.phase = .idle) (h : 2 ≤ s.arg2.toNat) :
    exec .modexp s = .next (loadModexp (clearOutcome s)) :=
  congrArg Host.Outcome.next ((issue_idle _ hp).trans (acceptModexp_loads (s := clearOutcome s) h))

/-- Settles O6. The two branches of the accept, on the state with DONE and ERR cleared. -/
theorem modexpAccept : Obligations.ModexpAccept := by
  intro s hp
  constructor
  · intro h
    rw [exec_modexp_raises hp h, raise_clearOutcome _ hp]
    rfl
  · intro h
    exact ⟨s.arg0 % s.arg2, BitVec.toNat_umod, exec_modexp_loads hp h⟩

/-! ### The loop step -/

theorem coreStep_mxLoop {s : State} (hp : s.phase = .mxLoop) : coreStep s = mxLoopStep s := by
  rw [coreStep, hp]

theorem coreStep_modexp_completes {s : State} (hp : s.phase = .mxLoop) (he : s.mxE = 0) :
    coreStep s = .next (completeWith s.mxR s) := by
  rw [coreStep_mxLoop hp, mxLoopStep, if_pos he]

theorem coreStep_modexp_iterates {s : State} (hp : s.phase = .mxLoop) (he : s.mxE ≠ 0) (hm : s.mxM ≠ 0) :
    coreStep s = .next (modexpIterate s) := by
  rw [coreStep_mxLoop hp, mxLoopStep, if_neg he, if_neg hm]

/-- R93's conditional multiply, as a number. -/
theorem modexpIterate_mxR_toNat {s : State} (hm : s.mxM ≠ 0) :
    (modexpIterate s).mxR.toNat =
      if s.mxE.toNat % 2 = 1 then s.mxR.toNat * s.mxB.toNat % s.mxM.toNat else s.mxR.toNat := by
  simp only [modexpIterate_mxR, bit0_eq, decide_eq_true_eq, apply_ite BitVec.toNat, mulmod_toNat _ _ _ hm]

/-- Settles O7. The registers of `modexpIterate`, each by the lemma on its operation. -/
theorem modexpLoopStep : Obligations.ModexpLoopStep := by
  intro s hp h2
  have hm : s.mxM ≠ 0 := ne_zero_of_two_le h2
  refine ⟨coreStep_modexp_completes hp, fun he => ?_⟩
  exact ⟨_, _, _, _, product_toNat _ _, modexpIterate_mxR_toNat hm, mulmod_toNat _ _ _ hm, half_toNat _,
    coreStep_modexp_iterates hp he hm⟩

/-! ### The loop invariant -/

/-- The value that R95's congruence pins down: `MX_R * MX_B^MX_E mod MX_M`. -/
def modexpResidue (s : State) : Nat := s.mxR.toNat * s.mxB.toNat ^ s.mxE.toNat % s.mxM.toNat

/-- One round of square and multiply, on numbers: the exponent's low bit goes into the product, its other bits into
the squared base. -/
theorem square_and_multiply (r b e m : Nat) :
    (if e % 2 = 1 then r * b % m else r) * (b * b % m) ^ (e / 2) % m = r * b ^ e % m := by
  have hsquare : (b * b % m) ^ (e / 2) ≡ b ^ (2 * (e / 2)) [MOD m] := by
    rw [pow_mul, pow_two]
    exact (Nat.mod_modEq _ _).pow _
  split_ifs with hodd
  · have hexp : 2 * (e / 2) + 1 = e := by omega
    calc r * b % m * (b * b % m) ^ (e / 2)
        ≡ r * b * b ^ (2 * (e / 2)) [MOD m] := (Nat.mod_modEq _ _).mul hsquare
      _ = r * b ^ (2 * (e / 2) + 1) := by ring
      _ = r * b ^ e := by rw [hexp]
  · have hexp : 2 * (e / 2) = e := by omega
    rw [hexp] at hsquare
    exact hsquare.mul_left r

theorem modexpResidue_iterate {s : State} (hm : s.mxM ≠ 0) : modexpResidue (modexpIterate s) = modexpResidue s := by
  unfold modexpResidue
  rw [modexpIterate_mxR_toNat hm, modexpIterate_mxB, modexpIterate_mxE, modexpIterate_mxM, half_toNat,
    mulmod_toNat _ _ _ hm]
  exact square_and_multiply _ _ _ _

/-- The loop starts on the residue asked for: `1 * (base mod m)^exp`. -/
theorem modexpResidue_load (s : State) : modexpResidue (loadModexp s) = s.arg0.toNat ^ s.arg1.toNat % s.arg2.toNat := by
  simp [modexpResidue, ← Nat.pow_mod]

/-- With no exponent left the residue is MX_R itself. -/
theorem modexpResidue_of_mxE_eq_zero {s : State} (he : s.mxE = 0) (hr : s.mxR.toNat < s.mxM.toNat) :
    modexpResidue s = s.mxR.toNat := by
  simp [modexpResidue, he, Nat.mod_eq_of_lt hr]

theorem modexpInv_load {s : State} (h : 2 ≤ s.arg2.toNat) : ModexpInv (loadModexp s) := by
  intro _
  have hbase : (s.arg0 % s.arg2).toNat < s.arg2.toNat := by
    rw [BitVec.toNat_umod]
    exact Nat.mod_lt _ (by omega)
  exact ⟨h, h, hbase⟩

theorem modexpInv_iterate {s : State} (h : ModexpInv s) : ModexpInv (modexpIterate s) := by
  intro hp
  obtain ⟨hm, hr, -⟩ := h hp
  have hm0 : s.mxM ≠ 0 := ne_zero_of_two_le hm
  refine ⟨hm, ?_, mulmod_lt _ _ _ hm0⟩
  rw [modexpIterate_mxR, modexpIterate_mxM]
  split
  · exact mulmod_lt _ _ _ hm0
  · exact hr

/-- Settles O8. The load establishes bounds and residue, an iteration keeps both, and at exponent 0 the residue is
MX_R, which completion writes to RESULT. -/
theorem modexpLoopKeepsTheResidue : Obligations.ModexpLoopKeepsTheResidue := by
  constructor
  · intro s hp h2
    exact ⟨_, exec_modexp_loads hp h2, rfl, rfl, modexpInv_load (s := clearOutcome s) h2,
      modexpResidue_load (clearOutcome s)⟩
  · intro s t hp hinv hstep
    obtain ⟨-, hr, -⟩ := hinv hp
    rw [coreStep_mxLoop hp] at hstep
    rcases mxLoopStep_cases hstep with ⟨he, rfl⟩ | ⟨-, hm, rfl⟩
    · exact .inr ⟨rfl, rfl, (modexpResidue_of_mxE_eq_zero he hr).symm⟩
    · exact .inl ⟨hp, rfl, modexpInv_iterate hinv, modexpResidue_iterate hm⟩

/-! ### The whole loop -/

theorem bitlen_eq_zero_iff (w : Word) : bitlen w = 0 ↔ w = 0 := by
  rw [bitlen, Nat.size_eq_zero, ← BitVec.toNat_inj]
  rfl

theorem bitlen_pos_iff (w : Word) : 0 < bitlen w ↔ w ≠ 0 :=
  Nat.pos_iff_ne_zero.trans (bitlen_eq_zero_iff w).not

/-- Halving a word that is not 0 drops one bit. -/
theorem bitlen_of_ne_zero {w : Word} (hw : w ≠ 0) : bitlen w = bitlen (w >>> 1) + 1 := by
  have hbits : Nat.bit (w.toNat.testBit 0) (w >>> 1).toNat = w.toNat := by
    rw [BitVec.toNat_ushiftRight]
    exact Nat.bit_testBit_zero_shiftRight_one _
  have hpos := toNat_pos_of_ne_zero hw
  rw [bitlen, bitlen, ← hbits, Nat.size_bit (by omega)]

/-- The loop is still running as long as the exponent has bits to give (R98). -/
theorem coreRun_modexp_busy {j : Nat} {s : State} (hp : s.phase = .mxLoop) (hm : s.mxM ≠ 0)
    (hj : j ≤ bitlen s.mxE) : ∃ r, coreRun j s = .next r ∧ r.phase = .mxLoop := by
  induction j generalizing s with
  | zero => exact ⟨s, rfl, hp⟩
  | succ j ih =>
    have he : s.mxE ≠ 0 := (bitlen_pos_iff _).mp (by omega)
    rw [bitlen_of_ne_zero he] at hj
    rw [coreRun_succ (coreStep_modexp_iterates hp he hm)]
    exact ih (s := modexpIterate s) hp hm (Nat.le_of_succ_le_succ hj)

/-- After one CORE step for each bit of the exponent and one more, the residue is in RESULT, and nothing but the
working registers, ACC, RESULT and the end of the command has changed (R94, R98). -/
theorem coreRun_modexp_completes {s : State} (hp : s.phase = .mxLoop) (hinv : ModexpInv s) :
    ∃ (a : Wide) (r b e : Word), r.toNat = modexpResidue s ∧
      coreRun (bitlen s.mxE + 1) s = .next (completeWith r { s with acc := a, mxR := r, mxB := b, mxE := e }) := by
  induction hn : bitlen s.mxE generalizing s with
  | zero =>
    obtain ⟨-, hr, -⟩ := hinv hp
    have he : s.mxE = 0 := (bitlen_eq_zero_iff _).mp hn
    exact ⟨s.acc, s.mxR, s.mxB, s.mxE, (modexpResidue_of_mxE_eq_zero he hr).symm,
      coreRun_one (coreStep_modexp_completes hp he)⟩
  | succ n ih =>
    obtain ⟨h2, -, -⟩ := hinv hp
    have hm : s.mxM ≠ 0 := ne_zero_of_two_le h2
    have he : s.mxE ≠ 0 := (bitlen_pos_iff _).mp (by omega)
    have hn' : bitlen (modexpIterate s).mxE = n := Nat.succ.inj ((bitlen_of_ne_zero he).symm.trans hn)
    obtain ⟨a, r, b, e, hres, hrun⟩ := ih (s := modexpIterate s) hp (modexpInv_iterate hinv) hn'
    rw [coreRun_succ (coreStep_modexp_iterates hp he hm)]
    exact ⟨a, r, b, e, hres.trans (modexpResidue_iterate hm), hrun⟩

/-- Settles O9. The accept loads the loop, which ends with its residue, `base^exp mod m`, in RESULT. -/
theorem modexpComputesThePower : Obligations.ModexpComputesThePower := by
  intro s hp
  constructor
  · intro h2
    have hm : s.arg2 ≠ 0 := ne_zero_of_two_le h2
    obtain ⟨a, r, b, e, hres, hrun⟩ :=
      coreRun_modexp_completes (s := loadModexp (clearOutcome s)) rfl (modexpInv_load h2)
    have hpower : r.toNat = s.arg0.toNat ^ s.arg1.toNat % s.arg2.toNat := hres.trans (modexpResidue_load _)
    have hlt : r.toNat < s.arg2.toNat := hpower ▸ Nat.mod_lt _ (toNat_pos_of_ne_zero hm)
    have hbusy : ∀ j, j ≤ bitlen s.arg1 →
        ∃ u, coreRun j (loadModexp (clearOutcome s)) = .next u ∧ u.phase = .mxLoop :=
      fun j hj => coreRun_modexp_busy rfl hm hj
    refine ⟨_, _, exec_modexp_loads hp h2, hrun, hbusy, hpower, hlt, rfl, rfl, rfl, ?_⟩
    exact ⟨⟨rfl, rfl, rfl⟩, ⟨rfl, rfl, rfl⟩, ⟨rfl, rfl⟩, rfl, rfl, rfl, rfl, rfl, rfl, rfl⟩
  · intro h
    exact ⟨_, exec_modexp_raises hp h, rfl, rfl, rfl, rfl⟩

end Sys2Proof.Machine
end

section
/-! PROOFS. The statements of `41_gcd.md`: the accept (R112), the loop step (R113) and the whole command (R111, R116).
The loop of INIT_GCD iterates Euclid in the same way (R123), so the facts on the iteration hold for both phases. -/

namespace Sys2Proof.Machine

/-! ### The accept and the loop step -/

theorem exec_gcd_loads {s : State} (hp : s.phase = .idle) :
    exec .gcd s = .next (acceptGcd (clearOutcome s)) :=
  congrArg Host.Outcome.next (issue_idle _ hp)

/-- Settles O10. `acceptGcd` on the state with DONE and ERR cleared. -/
theorem gcdAccept : Obligations.GcdAccept := fun _ hp => exec_gcd_loads hp

theorem coreStep_gcd_completes {s : State} (hp : s.phase = .gcdLoop) (hb : s.gcdB = 0) :
    coreStep s = .next (completeWith s.gcdA s) := by
  simp only [coreStep, hp, gcdLoopStep, if_pos hb]

/-- Both loops on Euclid's pair iterate while GCD_B is not 0 (R113, R123). -/
theorem coreStep_euclid {s : State} (hp : s.phase = .gcdLoop ∨ s.phase = .initGcd) (hb : s.gcdB ≠ 0) :
    coreStep s = .next (euclid s) := by
  rcases hp with hp | hp
  · simp only [coreStep, hp, gcdLoopStep, if_neg hb]
  · simp only [coreStep, hp, initGcdStep, if_neg hb]

/-- Settles O11. The two branches of the loop step; the new GCD_B is the remainder of words. -/
theorem gcdLoopStep_spec : Obligations.GcdLoopStep := by
  intro s hp
  refine ⟨coreStep_gcd_completes hp, fun hb => ?_⟩
  exact ⟨s.gcdA % s.gcdB, BitVec.toNat_umod, coreStep_euclid (.inl hp) hb⟩

/-! ### The whole loop -/

/-- From `s`, `n` CORE steps of Euclid's loop bring GCD_B to 0 with the greatest common divisor in GCD_A (R114); the
phase stays all along and no other register changes. -/
def EuclidEndsAfter (n : Nat) (s : State) : Prop :=
  (∃ g : Word, g.toNat = Nat.gcd s.gcdA.toNat s.gcdB.toNat ∧
    coreRun n s = .next { s with gcdA := g, gcdB := 0 }) ∧
  ∀ j, j ≤ n → ∃ r, coreRun j s = .next r ∧ r.phase = s.phase

theorem euclidEndsAfter_zero {s : State} (hb : s.gcdB = 0) : EuclidEndsAfter 0 s := by
  refine ⟨⟨s.gcdA, by simp [hb], by rw [coreRun_zero, ← hb]⟩, fun j hj => ?_⟩
  obtain rfl := Nat.le_zero.mp hj
  exact ⟨s, rfl, rfl⟩

theorem EuclidEndsAfter.succ {n : Nat} {s : State} (hp : s.phase = .gcdLoop ∨ s.phase = .initGcd)
    (hb : s.gcdB ≠ 0) (h : EuclidEndsAfter n (euclid s)) : EuclidEndsAfter (n + 1) s := by
  have hstep := coreStep_euclid hp hb
  obtain ⟨⟨g, hg, hrun⟩, hbusy⟩ := h
  refine ⟨⟨g, hg.trans (euclid_gcd s), (coreRun_succ hstep).trans hrun⟩, fun j hj => ?_⟩
  cases j with
  | zero => exact ⟨s, rfl, rfl⟩
  | succ j =>
    rw [coreRun_succ hstep]
    exact hbusy j (Nat.le_of_succ_le_succ hj)

theorem euclid_ordered {s : State} (hb : s.gcdB ≠ 0) : (euclid s).gcdB.toNat ≤ (euclid s).gcdA.toNat := by
  rw [euclid_gcdA, euclid_gcdB, BitVec.toNat_umod]
  exact (Nat.mod_lt _ (toNat_pos_of_ne_zero hb)).le

/-- The quotient is at least 1, so the remainder is less than half of the dividend. -/
theorem two_mul_mod_lt {a b : Nat} (hb : 0 < b) (hle : b ≤ a) : 2 * (a % b) < a := by
  have hlt : a % b < b := Nat.mod_lt a hb
  have hrest : a % b ≤ a - b := Nat.mod_eq_sub_mod hle ▸ Nat.mod_le (a - b) b
  omega

/-- An iteration on an ordered pair more than halves the product of the pair. -/
theorem two_mul_euclid_product_lt {s : State} (hb : s.gcdB ≠ 0) (hle : s.gcdB.toNat ≤ s.gcdA.toNat) :
    2 * ((euclid s).gcdA.toNat * (euclid s).gcdB.toNat) < s.gcdA.toNat * s.gcdB.toNat := by
  have hpos := toNat_pos_of_ne_zero hb
  rw [euclid_gcdA, euclid_gcdB, BitVec.toNat_umod]
  calc 2 * (s.gcdB.toNat * (s.gcdA.toNat % s.gcdB.toNat))
      = 2 * (s.gcdA.toNat % s.gcdB.toNat) * s.gcdB.toNat := by ring
    _ < s.gcdA.toNat * s.gcdB.toNat := Nat.mul_lt_mul_of_pos_right (two_mul_mod_lt hpos hle) hpos

/-- An ordered pair whose product is below `2^k` is done in `k` iterations. -/
theorem euclid_ends_of_ordered {k : Nat} {s : State} (hp : s.phase = .gcdLoop ∨ s.phase = .initGcd)
    (hle : s.gcdB.toNat ≤ s.gcdA.toNat) (hk : s.gcdA.toNat * s.gcdB.toNat < 2 ^ k) :
    ∃ n, n ≤ k ∧ EuclidEndsAfter n s := by
  induction k generalizing s with
  | zero =>
    have hb : s.gcdB = 0 := by
      by_contra hb
      have hhalved := two_mul_euclid_product_lt hb hle
      omega
    exact ⟨0, le_rfl, euclidEndsAfter_zero hb⟩
  | succ k ih =>
    by_cases hb : s.gcdB = 0
    · exact ⟨0, Nat.zero_le _, euclidEndsAfter_zero hb⟩
    · have hhalved := two_mul_euclid_product_lt hb hle
      obtain ⟨n, hn, hends⟩ := ih (s := euclid s) hp (euclid_ordered hb) (by omega)
      exact ⟨n + 1, Nat.succ_le_succ hn, hends.succ hp hb⟩

/-- R116's bound: one iteration orders the pair, and the product of two words is below `2^128`. -/
theorem euclid_ends {s : State} (hp : s.phase = .gcdLoop ∨ s.phase = .initGcd) :
    ∃ n, n ≤ 129 ∧ EuclidEndsAfter n s := by
  by_cases hb : s.gcdB = 0
  · exact ⟨0, Nat.zero_le _, euclidEndsAfter_zero hb⟩
  · have hproduct : (euclid s).gcdA.toNat * (euclid s).gcdB.toNat < 2 ^ 64 * 2 ^ 64 :=
      Nat.mul_lt_mul'' (BitVec.isLt _) (BitVec.isLt _)
    obtain ⟨n, hn, hends⟩ := euclid_ends_of_ordered (k := 128) (s := euclid s) hp (euclid_ordered hb) hproduct
    exact ⟨n + 1, Nat.succ_le_succ hn, hends.succ hp hb⟩

/-- Settles O12. The accept loads the operands, Euclid's loop ends on their greatest common divisor within R116's bound,
and one more CORE step writes it to RESULT. -/
theorem gcdComputesTheGreatestCommonDivisor : Obligations.GcdComputesTheGreatestCommonDivisor := by
  intro s hp
  obtain ⟨n, hn, ⟨g, hg, hrun⟩, hbusy⟩ := euclid_ends (s := acceptGcd (clearOutcome s)) (.inl rfl)
  have hdone := (coreRun_add hrun).trans (coreRun_one (coreStep_gcd_completes rfl rfl))
  refine ⟨_, _, n, exec_gcd_loads hp, hn, hdone, hbusy, hg, rfl, rfl, rfl, ?_⟩
  exact ⟨⟨rfl, rfl, rfl⟩, ⟨rfl, rfl, rfl⟩, ⟨rfl, rfl, rfl, rfl⟩, rfl, rfl, rfl, rfl, rfl, rfl, rfl, rfl⟩

end Sys2Proof.Machine
end

section
/-! PROOFS. The steps of `42_bbs.md`: the accept of BBS_INIT (R122) and its coprimality check (R123), the accept of
BBS_NEXT (R125) and its squaring (R126). -/

namespace Sys2Proof.Machine

/-! ### BBS_INIT -/

theorem exec_bbsInit_badModulus {s : State} (hp : s.phase = .idle) (h : s.arg0.toNat < 2) :
    exec .bbsInit s = .next (raise .invalidModulus (dropGenerator (clearOutcome s))) :=
  congrArg Host.Outcome.next ((issue_idle _ hp).trans (acceptBbsInit_badModulus (s := clearOutcome s) h))

theorem exec_bbsInit_badSeed {s : State} (hp : s.phase = .idle) (h : 2 ≤ s.arg0.toNat)
    (hs : ¬(2 ≤ s.arg1.toNat ∧ s.arg1.toNat + 2 ≤ s.arg0.toNat)) :
    exec .bbsInit s = .next (raise .invalidSeed (dropGenerator (clearOutcome s))) :=
  congrArg Host.Outcome.next ((issue_idle _ hp).trans (acceptBbsInit_badSeed (s := clearOutcome s) h hs))

theorem exec_bbsInit_loads {s : State} (hp : s.phase = .idle)
    (hs : 2 ≤ s.arg1.toNat ∧ s.arg1.toNat + 2 ≤ s.arg0.toNat) :
    exec .bbsInit s = .next (loadGenerator (dropGenerator (clearOutcome s))) :=
  congrArg Host.Outcome.next ((issue_idle _ hp).trans (acceptBbsInit_loads (s := clearOutcome s) hs))

/-- A BBS_INIT accept that raises in an idle block changes BBS_VALID, RESULT, ERR and DONE only. -/
theorem raise_dropGenerator_clearOutcome (e : ErrKind) {s : State} (hp : s.phase = .idle) :
    raise e (dropGenerator (clearOutcome s)) =
      { s with bbsValid := false, result := 0, err := errCode e, done := true } :=
  raise_clearOutcome e (s := dropGenerator s) hp

/-- Settles O13. The three ends of the accept in R122's order, each on the state with BBS_VALID, DONE and ERR cleared. -/
theorem bbsInitAccept : Obligations.BbsInitAccept := by
  intro s hp
  refine ⟨fun hn => ?_, fun hn hs => ?_, fun hlow hhigh => exec_bbsInit_loads hp ⟨hlow, hhigh⟩⟩
  · rw [exec_bbsInit_badModulus hp hn, raise_dropGenerator_clearOutcome _ hp]
    rfl
  · have hrange : ¬(2 ≤ s.arg1.toNat ∧ s.arg1.toNat + 2 ≤ s.arg0.toNat) := by omega
    rw [exec_bbsInit_badSeed hp hn hrange, raise_dropGenerator_clearOutcome _ hp]
    rfl

theorem coreStep_initGcd {s : State} (hp : s.phase = .initGcd) : coreStep s = initGcdStep s := by
  rw [coreStep, hp]

theorem coreStep_initGcd_validates {s : State} (hp : s.phase = .initGcd) (hb : s.gcdB = 0) (ha : s.gcdA = 1) :
    coreStep s = .next (completeWith 0 (validateGenerator s)) := by
  rw [coreStep_initGcd hp, initGcdStep, if_pos hb, if_pos ha]

theorem coreStep_initGcd_raises {s : State} (hp : s.phase = .initGcd) (hb : s.gcdB = 0) (ha : s.gcdA ≠ 1) :
    coreStep s = .next (raise .invalidSeed s) := by
  rw [coreStep_initGcd hp, initGcdStep, if_pos hb, if_neg ha]

/-- Settles O14. With GCD_B at 0 the gcd in GCD_A decides between the two ends; otherwise the step is Euclid's. -/
theorem bbsInitCoprimalityStep : Obligations.BbsInitCoprimalityStep := by
  intro s hp
  refine ⟨coreStep_initGcd_validates hp, coreStep_initGcd_raises hp, fun hb => ?_⟩
  exact ⟨s.gcdA % s.gcdB, BitVec.toNat_umod, coreStep_euclid (.inr hp) hb⟩

/-! ### BBS_NEXT -/

theorem exec_bbsNext_ready {s : State} (hp : s.phase = .idle) (hv : s.bbsValid = true) :
    exec .bbsNext s = .next { clearOutcome s with phase := .bbsSq } :=
  congrArg Host.Outcome.next ((issue_idle _ hp).trans (acceptBbsNext_ready (s := clearOutcome s) hv))

theorem exec_bbsNext_notReady {s : State} (hp : s.phase = .idle) (hv : s.bbsValid = false) :
    exec .bbsNext s = .next (raise .generatorNotReady (clearOutcome s)) :=
  congrArg Host.Outcome.next ((issue_idle _ hp).trans (acceptBbsNext_notReady (s := clearOutcome s) hv))

/-- Settles O16. The two branches of the accept, on the state with DONE and ERR cleared. -/
theorem bbsNextAccept : Obligations.BbsNextAccept := by
  intro s hp
  refine ⟨exec_bbsNext_ready hp, fun hv => ?_⟩
  rw [exec_bbsNext_notReady hp hv, raise_clearOutcome _ hp]
  rfl

theorem coreStep_bbsSq_completes {s : State} (hp : s.phase = .bbsSq) (hn : s.bbsN ≠ 0) :
    coreStep s = .next (completeWith (lowBit (squareState s).bbsState) (squareState s)) := by
  simp only [coreStep, hp, bbsSqStep, if_neg hn]

/-- Settles O17. ACC is the exact product, BBS_STATE its reduction, and RESULT the low bit of that new BBS_STATE. -/
theorem bbsSquaringStep : Obligations.BbsSquaringStep := by
  intro s hp hn
  exact ⟨_, _, _, product_toNat _ _, mulmod_toNat _ _ _ hn, lowBit_toNat _, coreStep_bbsSq_completes hp hn⟩

end Sys2Proof.Machine
end

section
/-! PROOFS. The statements of `60_exceptions.md`: the word that is no command (R177). -/

namespace Sys2Proof.Machine

/-- The words other than 1 to 4 are those of no command (R73, R74). -/
theorem ne_encode_of_outside {w : Word} (hw : w.toNat = 0 ∨ 5 ≤ w.toNat) (c : Instr) : w ≠ encode c := by
  intro hc
  obtain ⟨hlow, hhigh⟩ := (exists_eq_encode_iff w).mp ⟨c, hc⟩
  omega

/-- Settles O21. Such a word is no command's encoding, so an idle block's accept raises; a busy block drops any word. -/
theorem illegalWordRaises : Obligations.IllegalWordRaises := by
  intro s w hw
  rw [regWrite_cmd]
  exact ⟨fun hidle => writeCmd_illegal (ne_encode_of_outside hw) hidle, fun hbusy => writeCmd_busy w hbusy⟩

end Sys2Proof.Machine
end

section
/-! PROOFS. The round trip of `30_encoding.md`: words and bytes (R73, R52). -/

namespace Sys2Proof.Machine

/-- Appending a byte below a bit string shifts it up by 8 bits. -/
theorem append_byte_toNat {n : Nat} (x : BitVec n) (b : Byte) : (x ++ b).toNat = x.toNat * 256 + b.toNat := by
  rw [BitVec.toNat_append, ← Nat.shiftLeft_add_eq_or_of_lt b.isLt, Nat.shiftLeft_eq]

/-- The 8 bytes of a word, put together again, are the word (R52). -/
theorem wordOfBytes_bytesOfWord (w : Word) : wordOfBytes (bytesOfWord w) = some w := by
  have := w.isLt
  simp only [bytesOfWord, wordOfBytes, Option.some.injEq]
  apply BitVec.eq_of_toNat_eq
  simp only [append_byte_toNat, BitVec.extractLsb'_toNat, Nat.shiftRight_eq_div_pow]
  omega

/-- A byte string that carries a word is that word's 8 bytes; no other length carries one (R56). -/
theorem eq_bytesOfWord_of_wordOfBytes {bs : List Byte} {w : Word} (h : wordOfBytes bs = some w) :
    bs = bytesOfWord w := by
  unfold wordOfBytes at h
  split at h
  · obtain rfl := Option.some.inj h
    simp only [bytesOfWord, List.cons.injEq, ← BitVec.toNat_inj, append_byte_toNat, BitVec.extractLsb'_toNat,
      Nat.shiftRight_eq_div_pow, and_true]
    and_intros <;> omega
  · cases h

theorem decodeBytes_ok_iff (bs : List Byte) (c : Instr) : decodeBytes bs = .ok c ↔ bs = encodeBytes c := by
  constructor
  · intro h
    unfold decodeBytes at h
    split at h
    case h_1 w hw => rw [eq_bytesOfWord_of_wordOfBytes hw, eq_encode_of_decode h, encodeBytes]
    case h_2 => cases h
  · rintro rfl
    rw [decodeBytes, encodeBytes, wordOfBytes_bytesOfWord]
    exact decode_encode c

/-- Settles O2. Words by `decode_ok_iff`; byte strings by the same through the bijection of words and 8 bytes. -/
theorem decodeAndEncodeAgree : Obligations.DecodeAndEncodeAgree :=
  fun c _ => ⟨fun w => decode_ok_iff w c, fun bs => decodeBytes_ok_iff bs c⟩

/-- Settles O3: closed words, evaluated. -/
theorem sampleWordsDecode : Obligations.SampleWordsDecode := by
  unfold Obligations.SampleWordsDecode
  decide

end Sys2Proof.Machine
end

section
/-! PROOFS. What each agent's event leaves unchanged (R42), how an accept ends (R75), and the one inversion of a host
event that the later sections cite. -/

namespace Sys2Proof.Machine

/-! ### A CORE step -/

/-- No CORE step touches the operands, OVR, the host's data or the generator's modulus. -/
theorem coreStep_keeps_rest {s t : State} (h : coreStep s = .next t) :
    SameOperands s t ∧ t.ovr = s.ovr ∧ SameHost s t ∧ t.bbsN = s.bbsN := by
  rcases coreStep_cases h with
    ⟨_, rfl⟩ | ⟨_, _, rfl⟩ | ⟨_, _, _, rfl⟩ | ⟨_, _, rfl⟩ | ⟨_, _, rfl⟩ | ⟨_, _, _, rfl⟩ | ⟨_, _, _, rfl⟩ | ⟨_, _, rfl⟩
  <;> exact ⟨⟨rfl, rfl, rfl⟩, rfl, ⟨rfl, rfl, rfl, rfl, rfl, rfl⟩, rfl⟩

/-- A CORE step ends the command, or leaves the phase and the outcome as they were. -/
theorem coreStep_ends_or_goes_on {s t : State} (h : coreStep s = .next t) :
    (t.phase = s.phase ∧ t.result = s.result ∧ t.done = s.done ∧ t.err = s.err) ∨
    (s.phase ≠ .idle ∧ t.phase = .idle ∧ t.done = true ∧ (t.err = s.err ∨ t.err = 4 ∧ t.result = 0)) := by
  rcases coreStep_cases h with
    ⟨_, rfl⟩ | ⟨hp, _, rfl⟩ | ⟨_, _, _, rfl⟩ | ⟨hp, _, rfl⟩ | ⟨_, _, rfl⟩ | ⟨hp, _, _, rfl⟩ | ⟨hp, _, _, rfl⟩ |
    ⟨hp, _, rfl⟩
  · exact .inl ⟨rfl, rfl, rfl, rfl⟩
  · exact .inr ⟨by simp [hp], rfl, rfl, .inl rfl⟩
  · exact .inl ⟨rfl, rfl, rfl, rfl⟩
  · exact .inr ⟨by simp [hp], rfl, rfl, .inl rfl⟩
  · exact .inl ⟨rfl, rfl, rfl, rfl⟩
  · exact .inr ⟨by simp [hp], rfl, rfl, .inl rfl⟩
  · exact .inr ⟨by simp [hp], rfl, rfl, .inr ⟨rfl, rfl⟩⟩
  · exact .inr ⟨by simp [hp], rfl, rfl, .inl rfl⟩

/-- R42: each unit's registers change only in its own phases. -/
theorem coreStep_keeps_other_units {s t : State} (h : coreStep s = .next t) :
    (s.phase ≠ .mxLoop → SameModexpUnit s t) ∧
    (s.phase ≠ .gcdLoop → s.phase ≠ .initGcd → SameGcdUnit s t) ∧
    (s.phase ≠ .mxLoop → s.phase ≠ .bbsSq → t.acc = s.acc) ∧
    (s.phase ≠ .bbsSq → t.bbsState = s.bbsState) ∧ (s.phase ≠ .initGcd → t.bbsValid = s.bbsValid) := by
  rcases coreStep_cases h with
    ⟨_, rfl⟩ | ⟨_, _, rfl⟩ | ⟨hp, _, _, rfl⟩ | ⟨_, _, rfl⟩ | ⟨hp, _, rfl⟩ | ⟨hp, _, _, rfl⟩ | ⟨_, _, _, rfl⟩ |
    ⟨hp, _, rfl⟩
  case inr.inr.inr.inr.inl => rcases hp with hp | hp <;> simp [hp]
  all_goals simp [*]

/-- Settles O34. The always-part, the units, and the outcome of a step that does not end the command. -/
theorem coreStepFrame : Obligations.CoreStepFrame := by
  intro s t h
  obtain ⟨hargs, hovr, hhost, hn⟩ := coreStep_keeps_rest h
  obtain ⟨hmx, hgcd, hacc, hstate, hvalid⟩ := coreStep_keeps_other_units h
  refine ⟨hargs, hovr, hhost, hn, hmx, hgcd, hacc, hstate, hvalid, fun hbusy => ?_⟩
  rcases coreStep_ends_or_goes_on h with ⟨_, houtcome⟩ | ⟨_, hidle, _⟩
  · exact houtcome
  · exact absurd hidle hbusy

/-! ### An accept -/

/-- The state of an accept that raised, as the host sees its end (R176). -/
def EndedWithError (t : State) : Prop :=
  t.phase = .idle ∧ t.done = true ∧ (t.err = 1 ∨ t.err = 4 ∨ t.err = 5 ∨ t.err = 6) ∧ t.result = 0

/-- The state after an accept from `s` that started a command (R28, R75). -/
def Started (s t : State) : Prop :=
  t.phase ≠ .idle ∧ t.done = false ∧ t.err = 0 ∧ t.result = s.result

theorem EndedWithError.err_ne_zero {t : State} (h : EndedWithError t) : t.err ≠ 0 := by
  obtain ⟨_, _, he | he | he | he, _⟩ := h <;> simp [he]

/-- R75: the accept of a command raises or starts it. -/
theorem exec_idle_ends_or_starts {c : Instr} {s t : State} (hp : s.phase = .idle) (h : exec c s = .next t) :
    EndedWithError t ∨ Started s t := by
  obtain ⟨u, hu, hcases⟩ := exec_idle_cases c hp
  obtain rfl : u = t := Host.Outcome.next.inj (hu.symm.trans h)
  rcases hcases with
    ⟨_, _, rfl⟩ | ⟨_, _, rfl⟩ | ⟨_, rfl⟩ | ⟨_, _, rfl⟩ | ⟨_, _, _, rfl⟩ | ⟨_, _, rfl⟩ | ⟨_, _, rfl⟩ | ⟨_, _, rfl⟩
  · exact .inl ⟨rfl, rfl, .inl rfl, rfl⟩
  · exact .inr ⟨by simp, rfl, rfl, rfl⟩
  · exact .inr ⟨by simp, rfl, rfl, rfl⟩
  · exact .inl ⟨rfl, rfl, .inl rfl, rfl⟩
  · exact .inl ⟨rfl, rfl, .inr (.inl rfl), rfl⟩
  · exact .inr ⟨by simp, rfl, rfl, rfl⟩
  · exact .inr ⟨by simp, rfl, rfl, rfl⟩
  · exact .inl ⟨rfl, rfl, .inr (.inr (.inl rfl)), rfl⟩

theorem raise_illegalCommand_ended (s : State) : EndedWithError (raise .illegalCommand s) :=
  ⟨rfl, rfl, .inr (.inr (.inr rfl)), rfl⟩

/-- R75: a CMD write of any word in an idle block answers a next state, ended with an error or started. -/
theorem writeCmd_idle_ends_or_starts (w : Word) {s : State} (hp : s.phase = .idle) :
    ∃ t, writeCmd w s = .next t ∧ (EndedWithError t ∨ Started s t) := by
  rcases writeCmd_cases w s with ⟨hb, _⟩ | ⟨_, c, _, hw⟩ | ⟨_, _, hw⟩
  · exact absurd hp hb
  · obtain ⟨t, ht, _⟩ := exec_idle_cases c hp
    exact ⟨t, hw.trans ht, exec_idle_ends_or_starts hp ht⟩
  · exact ⟨_, hw, .inl (raise_illegalCommand_ended _)⟩

/-- Settles O23. The write of CMD is `writeCmd`, and BUSY is PHASE not IDLE. -/
theorem acceptEndsOrStarts : Obligations.AcceptEndsOrStarts := by
  intro s w hp
  obtain ⟨t, ht, hend | ⟨hbusy, hdone, herr, hresult⟩⟩ := writeCmd_idle_ends_or_starts w hp
  · obtain ⟨hidle, hdone, _, hresult⟩ := id hend
    exact ⟨t, ht, .inl ⟨by simp [busy, hidle], hdone, hend.err_ne_zero, hresult⟩⟩
  · exact ⟨t, ht, .inr ⟨(busy_iff t).mpr hbusy, hdone, herr, hresult⟩⟩

/-- No accept touches the operands, OVR, ACC or the host's data. -/
theorem exec_idle_keeps_rest {c : Instr} {s t : State} (hp : s.phase = .idle) (h : exec c s = .next t) :
    SameOperands s t ∧ t.ovr = s.ovr ∧ t.acc = s.acc ∧ SameHost s t := by
  obtain ⟨u, hu, hcases⟩ := exec_idle_cases c hp
  obtain rfl : u = t := Host.Outcome.next.inj (hu.symm.trans h)
  rcases hcases with
    ⟨_, _, rfl⟩ | ⟨_, _, rfl⟩ | ⟨_, rfl⟩ | ⟨_, _, rfl⟩ | ⟨_, _, _, rfl⟩ | ⟨_, _, rfl⟩ | ⟨_, _, rfl⟩ | ⟨_, _, rfl⟩
  <;> exact ⟨⟨rfl, rfl, rfl⟩, rfl, rfl, ⟨rfl, rfl, rfl, rfl, rfl, rfl⟩⟩

/-- R42: each accept writes the working registers of its own command only, and none if it raises. -/
theorem exec_idle_keeps_other_units {c : Instr} {s t : State} (hp : s.phase = .idle) (h : exec c s = .next t) :
    (c ≠ .modexp → SameModexpUnit s t) ∧ (c ≠ .gcd → c ≠ .bbsInit → SameGcdUnit s t) ∧
    (c ≠ .bbsInit → SameGenerator s t) ∧
    (t.err ≠ 0 → SameModexpUnit s t ∧ SameGcdUnit s t ∧ t.bbsN = s.bbsN ∧ t.bbsState = s.bbsState) := by
  obtain ⟨u, hu, hcases⟩ := exec_idle_cases c hp
  obtain rfl : u = t := Host.Outcome.next.inj (hu.symm.trans h)
  rcases hcases with
    ⟨rfl, _, rfl⟩ | ⟨rfl, _, rfl⟩ | ⟨rfl, rfl⟩ | ⟨rfl, _, rfl⟩ | ⟨rfl, _, _, rfl⟩ | ⟨rfl, _, rfl⟩ | ⟨rfl, _, rfl⟩ |
    ⟨rfl, _, rfl⟩
  <;> simp

/-- Settles O33. An accept that does not raise has started the command, with RESULT as it was. -/
theorem acceptFrame : Obligations.AcceptFrame := by
  intro c s t hp h
  obtain ⟨hargs, hovr, hacc, hhost⟩ := exec_idle_keeps_rest hp h
  obtain ⟨hmx, hgcd, hgen, hraised⟩ := exec_idle_keeps_other_units hp h
  refine ⟨hargs, hovr, hacc, hhost, hmx, hgcd, hgen, fun herr => ?_, hraised⟩
  rcases exec_idle_ends_or_starts hp h with hend | ⟨_, _, _, hresult⟩
  · exact absurd herr hend.err_ne_zero
  · exact hresult

/-- No CMD write touches the operands or the host's data. -/
theorem writeCmd_keeps_rest {w : Word} {s t : State} (h : writeCmd w s = .next t) :
    SameOperands s t ∧ SameHost s t := by
  rcases writeCmd_cases w s with ⟨_, hw⟩ | ⟨hp, c, _, hw⟩ | ⟨_, _, hw⟩ <;> rw [hw] at h
  · obtain rfl := Host.Outcome.next.inj h
    simp
  · obtain ⟨hargs, _, _, hhost⟩ := exec_idle_keeps_rest hp h
    exact ⟨hargs, hhost⟩
  · obtain rfl := Host.Outcome.next.inj h
    simp

/-! ### A host event -/

/-- A host event that reaches the command: the host writes CMD with `w` in an idle block, and `t` is what `writeCmd`
answers to it. -/
def AcceptsWord (w : Word) (s t : State) : Prop :=
  s.phase = .idle ∧ ∃ rest, s.lines = .wr idxCmd w :: rest ∧ writeCmd w (setLines rest s) = .next t

/-- A host event leaves the command alone, and OVR too unless the block is busy; or it is an accept. -/
theorem hostStep_sameCommand_or_accepts {s t : State} (h : hostStep s = .next t) :
    (SameCommand s t ∧ (s.phase = .idle → t.ovr = s.ovr)) ∨ ∃ w, AcceptsWord w s t := by
  rcases hostStep_cases h with
    ⟨_, _, _, _, rfl⟩ | ⟨_, _, _, rfl⟩ | ⟨_, _, _, rfl⟩ | ⟨_, _, _, rfl⟩ | ⟨w, rest, hl, hw⟩
  case inr.inr.inr.inr =>
    by_cases hp : s.phase = .idle
    · exact .inr ⟨w, hp, rest, hl, hw⟩
    · obtain rfl := Host.Outcome.next.inj ((writeCmd_busy w (s := setLines rest s) hp).symm.trans hw)
      exact .inl ⟨by simp, fun hidle => absurd hidle hp⟩
  all_goals exact .inl (by simp)

/-- An accept of a command's word is `exec` of it; of any other word, the error IllegalCommand. -/
theorem AcceptsWord.cases {w : Word} {s t : State} (h : AcceptsWord w s t) :
    s.phase = .idle ∧ ∃ rest, s.lines = .wr idxCmd w :: rest ∧
      ((∃ c, w = encode c ∧ exec c (setLines rest s) = .next t) ∨
       t = raise .illegalCommand (clearOutcome (setLines rest s))) := by
  obtain ⟨hp, rest, hl, hw⟩ := h
  refine ⟨hp, rest, hl, ?_⟩
  rcases writeCmd_cases w (setLines rest s) with ⟨hb, _⟩ | ⟨_, c, hd, he⟩ | ⟨_, _, he⟩
  · exact absurd hp hb
  · exact .inl ⟨c, eq_encode_of_decode hd, he.symm.trans hw⟩
  · exact .inr (Host.Outcome.next.inj (hw.symm.trans he))

theorem AcceptsWord.ends_or_starts {w : Word} {s t : State} (h : AcceptsWord w s t) :
    EndedWithError t ∨ Started s t := by
  obtain ⟨hp, rest, _, hw⟩ := h
  obtain ⟨u, hu, hend⟩ := writeCmd_idle_ends_or_starts w (s := setLines rest s) hp
  obtain rfl : u = t := Host.Outcome.next.inj (hu.symm.trans hw)
  exact hend

/-- Settles O36: an accept needs an idle block. -/
theorem hostDoesNotDisturbARunningCommand : Obligations.HostDoesNotDisturbARunningCommand := by
  intro s hp
  obtain ⟨t, ht⟩ := hostStep_answers s
  rcases hostStep_sameCommand_or_accepts ht with ⟨hsame, _⟩ | ⟨_, hidle, _⟩
  · exact ⟨t, ht, hsame⟩
  · exact absurd hidle hp

end Sys2Proof.Machine
end

section
/-! PROOFS. The step of the machine (R58): whose event it is, and what it may change (R22 to R24, R30, R59, R130,
R171). -/

namespace Sys2Proof.Machine

/-! ### Whose event -/

theorem step_of_nextTurn {s : State} {a : Turn} (h : nextTurn s = a) : step s = runTurn a (dropTurn s) := by
  rw [step, h]

theorem nextTurn_of_cons {s : State} {a : Turn} {rest : List Turn} (h : s.turns = a :: rest) : nextTurn s = a := by
  rw [nextTurn, h]

theorem nextTurn_of_nil {s : State} (h : s.turns = []) :
    nextTurn s = if s.phase = .idle then .host else .core := by
  rw [nextTurn, h]

theorem dropTurn_of_cons {s : State} {a : Turn} {rest : List Turn} (h : s.turns = a :: rest) :
    dropTurn s = { s with turns := rest } := by
  rw [dropTurn, h, List.tail_cons]

theorem dropTurn_of_nil {s : State} (h : s.turns = []) : dropTurn s = s := by
  rw [dropTurn, h, List.tail_nil, ← h]

theorem step_of_cons {s : State} {a : Turn} {rest : List Turn} (h : s.turns = a :: rest) :
    step s = runTurn a { s with turns := rest } := by
  rw [step_of_nextTurn (nextTurn_of_cons h), dropTurn_of_cons h]

/-- With no schedule left a busy block takes a CORE step (R202). -/
theorem step_of_nil_busy {s : State} (h : s.turns = []) (hp : s.phase ≠ .idle) : step s = coreStep s := by
  rw [step_of_nextTurn ((nextTurn_of_nil h).trans (if_neg hp)), dropTurn_of_nil h, runTurn]

theorem step_of_nil_idle {s : State} (h : s.turns = []) (hp : s.phase = .idle) : step s = hostStep s := by
  rw [step_of_nextTurn ((nextTurn_of_nil h).trans (if_pos hp)), dropTurn_of_nil h, runTurn]

/-- Settles O5: `runTurn` of the schedule's head, or of the default turn. -/
theorem stepIsOneEventOfOneAgent : Obligations.StepIsOneEventOfOneAgent :=
  fun _ _ => ⟨step_of_cons, step_of_cons, step_of_cons, step_of_nil_busy, step_of_nil_idle⟩

/-- Settles O4. The host's turn issues the line, which is a CMD write of the word of `i`. -/
theorem stepRunsTheWrittenCommand : Obligations.StepRunsTheWrittenCommand := by
  intro s w rest i hn hl hd
  rw [eq_encode_of_decode hd] at hl
  rw [step_of_nextTurn hn, runTurn, hostStep_wr (s := dropTurn s) hl, regWrite_cmd, writeCmd_encode]
  rfl

/-- All that a step without RESET can do to the command: a CORE step; a host event that leaves it alone; an accept. -/
theorem step_command_cases {s t : State} (h : step s = .next t) (hn : nextTurn s ≠ .reset) :
    (nextTurn s = .core ∧ coreStep (dropTurn s) = .next t) ∨
    (nextTurn s = .host ∧ SameCommand s t) ∨
    (nextTurn s = .host ∧ ∃ w, AcceptsWord w (dropTurn s) t) := by
  rcases step_cases h with ⟨hr, _⟩ | hcore | ⟨hhost, hs⟩
  · exact absurd hr hn
  · exact .inl hcore
  · rcases hostStep_sameCommand_or_accepts hs with ⟨hsame, _⟩ | haccept
    · exact .inr (.inl ⟨hhost, hsame⟩)
    · exact .inr (.inr ⟨hhost, haccept⟩)

/-! ### The outcome and the phase -/

theorem coreStep_idle {s : State} (hp : s.phase = .idle) : coreStep s = .next s := by
  rw [coreStep, hp]

/-- Settles O24. RESET and a start write 0, an accept that raises one of four codes, a CORE step none or InvalidSeed. -/
theorem stepProducesOnlyTheListedErrorCodes : Obligations.StepProducesOnlyTheListedErrorCodes := by
  intro s t h
  by_cases hn : nextTurn s = .reset
  · rw [step_of_nextTurn hn, runTurn_reset] at h
    obtain rfl := Host.Outcome.next.inj h
    exact .inr (.inl rfl)
  rcases step_command_cases h hn with ⟨_, hcore⟩ | ⟨_, _, _, _, herr, _⟩ | ⟨_, w, haccept⟩
  · rcases coreStep_ends_or_goes_on hcore with ⟨_, _, _, herr⟩ | ⟨_, _, hdone, herr | ⟨herr, hresult⟩⟩
    · exact .inl herr
    · exact .inl herr
    · exact .inr (.inr ⟨.inr (.inl herr), hresult, hdone⟩)
  · exact .inl herr
  · rcases haccept.ends_or_starts with ⟨_, hdone, herr, hresult⟩ | ⟨_, _, herr, _⟩
    · exact .inr (.inr ⟨herr, hresult, hdone⟩)
    · exact .inr (.inl herr)

/-- Settles O32. Of the events without RESET only an accept of a command's word and the end of a command move PHASE. -/
theorem phaseChangesOnlyAsListed : Obligations.PhaseChangesOnlyAsListed := by
  refine ⟨fun s hp => coreStep_idle hp, fun s t h hn hmoved => ?_⟩
  rcases step_command_cases h hn with ⟨hturn, hcore⟩ | ⟨_, hphase, _⟩ | ⟨hturn, w, haccept⟩
  · rcases coreStep_ends_or_goes_on hcore with ⟨hphase, _⟩ | ⟨hbusy, hidle, hdone, _⟩
    · exact absurd hphase hmoved
    · exact .inr ⟨hbusy, hturn, hidle, hdone⟩
  · exact absurd hphase hmoved
  · obtain ⟨hp, rest, hl, ⟨c, rfl, _⟩ | rfl⟩ := haccept.cases
    · exact .inl ⟨hp, hturn, c, congrArg List.head? hl⟩
    · exact absurd hp.symm hmoved

/-- Settles O35. An idle CORE does nothing, and the only host event that touches the outcome is a CMD write. -/
theorem outcomeStaysUntilTheNextCommand : Obligations.OutcomeStaysUntilTheNextCommand := by
  intro s t hp h hn hnocmd
  rcases step_command_cases h hn with ⟨_, hcore⟩ | ⟨_, hphase, hresult, hdone, herr, _⟩ | ⟨hturn, w, _, rest, hl, _⟩
  · obtain rfl := Host.Outcome.next.inj ((coreStep_idle (s := dropTurn s) hp).symm.trans hcore)
    exact ⟨hp, rfl, rfl, rfl⟩
  · exact ⟨hphase.trans hp, hresult, herr, hdone⟩
  · exact absurd (congrArg List.head? hl) (hnocmd w hturn)

/-! ### The operands -/

/-- A host event changes an operand register only by the write of it. -/
theorem hostStep_operands {s t : State} (h : hostStep s = .next t) :
    (t.arg0 ≠ s.arg0 → s.lines.head? = some (.wr idxArg0 t.arg0)) ∧
    (t.arg1 ≠ s.arg1 → s.lines.head? = some (.wr idxArg1 t.arg1)) ∧
    (t.arg2 ≠ s.arg2 → s.lines.head? = some (.wr idxArg2 t.arg2)) := by
  rcases hostStep_cases h with
    ⟨_, _, _, _, rfl⟩ | ⟨_, _, hl, rfl⟩ | ⟨_, _, hl, rfl⟩ | ⟨_, _, hl, rfl⟩ | ⟨w, rest, _, hw⟩
  · simp
  · simp [hl]
  · simp [hl]
  · simp [hl]
  · obtain ⟨⟨h0, h1, h2⟩, _⟩ := writeCmd_keeps_rest hw
    exact ⟨absurd h0, absurd h1, absurd h2⟩

/-- Settles O31: no CORE step touches an operand register, and a host event only by the write of it. -/
theorem operandsChangeOnlyByHostWrites : Obligations.OperandsChangeOnlyByHostWrites := by
  intro s t h hn
  rcases step_cases h with ⟨hr, _⟩ | ⟨_, hcore⟩ | ⟨hturn, hhost⟩
  · exact absurd hr hn
  · obtain ⟨⟨h0, h1, h2⟩, _⟩ := coreStep_keeps_rest hcore
    exact ⟨absurd h0, absurd h1, absurd h2⟩
  · obtain ⟨h0, h1, h2⟩ := hostStep_operands hhost
    exact ⟨fun hne => ⟨hturn, h0 hne⟩, fun hne => ⟨hturn, h1 hne⟩, fun hne => ⟨hturn, h2 hne⟩⟩

/-! ### The generator -/

/-- A CORE step makes a generator valid in the INIT_GCD step that finds gcd 1, and otherwise leaves BBS_VALID. -/
theorem coreStep_bbsValid {s t : State} (h : coreStep s = .next t) :
    t.bbsValid = s.bbsValid ∨ (t.bbsValid = true ∧ s.phase = .initGcd ∧ s.gcdB = 0 ∧ s.gcdA = 1) := by
  by_cases hp : s.phase = .initGcd
  · rw [coreStep_initGcd hp] at h
    rcases initGcdStep_cases h with ⟨hb, ha, rfl⟩ | ⟨_, _, rfl⟩ | ⟨_, rfl⟩
    · exact .inr ⟨rfl, hp, hb, ha⟩
    · exact .inl rfl
    · exact .inl rfl
  · obtain ⟨_, _, _, _, hvalid⟩ := coreStep_keeps_other_units h
    exact .inl (hvalid hp)

/-- An accept of BBS_INIT drops the old generator, and loads the candidate if its range checks pass (R122). -/
theorem exec_bbsInit_generator {s t : State} (hp : s.phase = .idle) (h : exec .bbsInit s = .next t) :
    t.bbsValid = false ∧
      ((t.bbsN = s.bbsN ∧ t.bbsState = s.bbsState) ∨
       ((2 ≤ s.arg1.toNat ∧ s.arg1.toNat + 2 ≤ s.arg0.toNat) ∧ t.bbsN = s.arg0 ∧ t.bbsState = s.arg1)) := by
  by_cases hrange : 2 ≤ s.arg1.toNat ∧ s.arg1.toNat + 2 ≤ s.arg0.toNat
  · obtain rfl := Host.Outcome.next.inj ((exec_bbsInit_loads hp hrange).symm.trans h)
    exact ⟨rfl, .inr ⟨hrange, rfl, rfl⟩⟩
  by_cases hn : s.arg0.toNat < 2
  · obtain rfl := Host.Outcome.next.inj ((exec_bbsInit_badModulus hp hn).symm.trans h)
    exact ⟨rfl, .inl ⟨rfl, rfl⟩⟩
  · obtain rfl := Host.Outcome.next.inj ((exec_bbsInit_badSeed hp (Nat.not_lt.mp hn) hrange).symm.trans h)
    exact ⟨rfl, .inl ⟨rfl, rfl⟩⟩

/-- An accept of any word leaves the generator alone, or it is BBS_INIT's. -/
theorem AcceptsWord.generator {w : Word} {s t : State} (h : AcceptsWord w s t) :
    SameGenerator s t ∨
    (s.phase = .idle ∧ s.lines.head? = some (.wr idxCmd (encode .bbsInit)) ∧ t.bbsValid = false ∧
      ((t.bbsN = s.bbsN ∧ t.bbsState = s.bbsState) ∨
       ((2 ≤ s.arg1.toNat ∧ s.arg1.toNat + 2 ≤ s.arg0.toNat) ∧ t.bbsN = s.arg0 ∧ t.bbsState = s.arg1))) := by
  obtain ⟨hp, rest, hl, ⟨c, rfl, hc⟩ | rfl⟩ := h.cases
  · by_cases hinit : c = .bbsInit
    · subst hinit
      exact .inr ⟨hp, congrArg List.head? hl, exec_bbsInit_generator (s := setLines rest s) hp hc⟩
    · obtain ⟨_, _, hsame, _⟩ := exec_idle_keeps_other_units (s := setLines rest s) hp hc
      exact .inl (hsame hinit)
  · exact .inl ⟨rfl, rfl, rfl⟩

/-- A step that leaves the generator alone meets all of R130. -/
theorem generatorLifetime_of_same {s t : State} {p q r v : Prop} (h : SameGenerator s t) :
    (t.bbsN ≠ s.bbsN → p) ∧ (t.bbsState ≠ s.bbsState → q) ∧ (s.bbsValid = true → t.bbsValid = false → r) ∧
    (s.bbsValid = false → t.bbsValid = true → v) := by
  obtain ⟨hn, hstate, hvalid⟩ := h
  exact ⟨absurd hn, absurd hstate,
    fun hold hnew => absurd (hnew.symm.trans (hvalid.trans hold)) Bool.false_ne_true,
    fun hold hnew => absurd (hold.symm.trans (hvalid.symm.trans hnew)) Bool.false_ne_true⟩

/-- Settles O20, by what a CORE step and an accept can do to the generator. -/
theorem generatorLifetime : Obligations.GeneratorLifetime := by
  intro s t h hn
  rcases step_command_cases h hn with ⟨hturn, hcore⟩ | ⟨_, _, _, _, _, _, hgen, _⟩ | ⟨hturn, w, haccept⟩
  · obtain ⟨_, _, _, hmod⟩ := coreStep_keeps_rest hcore
    obtain ⟨_, _, _, hstate, _⟩ := coreStep_keeps_other_units hcore
    refine ⟨absurd hmod, fun hne => ?_, fun hold hnew => ?_, fun hold hnew => ?_⟩
    · by_contra hnot
      exact hne (hstate fun hp => hnot (.inr ⟨hturn, hp⟩))
    · rcases coreStep_bbsValid hcore with hsame | ⟨hvalid, _⟩
      · exact absurd (hnew.symm.trans (hsame.trans hold)) Bool.false_ne_true
      · exact absurd (hnew.symm.trans hvalid) Bool.false_ne_true
    · rcases coreStep_bbsValid hcore with hsame | ⟨_, hfound⟩
      · exact absurd (hold.symm.trans (hsame.symm.trans hnew)) Bool.false_ne_true
      · exact ⟨hturn, hfound⟩
  · exact generatorLifetime_of_same hgen
  · rcases haccept.generator with hgen | ⟨hp, hl, hvalid, hload⟩
    · exact generatorLifetime_of_same hgen
    have haccepts : AcceptsBbsInit s := ⟨hturn, hp, hl⟩
    refine ⟨fun hne => ?_, fun hne => ?_, fun _ _ => haccepts, fun _ hnew => ?_⟩
    · rcases hload with ⟨hsame, _⟩ | ⟨hrange, hnew, _⟩
      · exact absurd hsame hne
      · exact ⟨⟨haccepts, hrange⟩, hnew⟩
    · rcases hload with ⟨_, hsame⟩ | ⟨hrange, _, hnew⟩
      · exact absurd hsame hne
      · exact .inl ⟨⟨haccepts, hrange⟩, hnew⟩
    · simp [hvalid] at hnew

/-! ### What a read returns -/

/-- Settles O30, slot by slot: only STATUS is assembled, from the flags and BUSY. -/
theorem privateStateIsUnreadable : Obligations.PrivateStateIsUnreadable := by
  rintro s t i ⟨⟨h0, h1, h2⟩, hresult, hdone, hvalid, hovr, herr, hbusy⟩
  unfold regRead
  cases slotOf i
  case status => simp only [statusWord, hdone, hvalid, hovr, herr, hbusy]
  all_goals simp only [h0, h1, h2, hresult]

end Sys2Proof.Machine
end

section
/-! PROOFS. The invariant (R28, R32, R36): it holds after reset, every event keeps it, and it rules the faults out. -/

namespace Sys2Proof.Machine

/-! ### What the invariant asks of the three kinds of states -/

/-- The invariant speaks of the command and, in a block that is idle and not done, of OVR. -/
theorem stateInv_of_sameCommand {s t : State} (h : SameCommand s t) (hovr : s.phase = .idle → t.ovr = s.ovr)
    (hs : StateInv s) : StateInv t := by
  obtain ⟨hphase, hresult, hdone, herr, -, ⟨hn, hx, hv⟩, ⟨hr, hb, -, hm⟩, ha, hg⟩ := h
  obtain ⟨hmx, hgen, hcon, hsq, hbusy, herror, hfresh⟩ := hs
  simp only [StateInv, ModexpInv, GeneratorInv, ConstructionInv, SquaringInv, BusyInv, ErrorInv, FreshInv, hphase,
    hresult, hdone, herr, hn, hx, hv, hr, hb, hm, ha, hg]
  refine ⟨hmx, hgen, hcon, hsq, hbusy, herror, fun hp hd => ?_⟩
  rw [hovr hp]
  exact hfresh hp hd

/-- A block that is idle and done has no command whose registers could be out of bounds. -/
theorem stateInv_of_done {t : State} (hp : t.phase = .idle) (hd : t.done = true) (hgen : GeneratorInv t)
    (herr : t.err = 0 ∨ ((t.err = 1 ∨ t.err = 4 ∨ t.err = 5 ∨ t.err = 6) ∧ t.result = 0)) : StateInv t := by
  refine ⟨by simp [hp], hgen, by simp [hp], by simp [hp], by simp [hp], ?_, by simp [hd]⟩
  rcases herr with h0 | ⟨hlisted, hresult⟩
  · exact .inl h0
  · exact .inr ⟨hlisted, hresult, hd, hp⟩

/-- A busy block with DONE and ERR clear meets R28's parts. -/
theorem stateInv_of_busy {t : State} (hp : t.phase ≠ .idle) (hd : t.done = false) (he : t.err = 0)
    (hmx : ModexpInv t) (hgen : GeneratorInv t) (hcon : ConstructionInv t) (hsq : SquaringInv t) : StateInv t :=
  ⟨hmx, hgen, hcon, hsq, fun _ => ⟨hd, he⟩, .inl he, fun hidle => absurd hidle hp⟩

theorem stateInv_of_endedWithError {t : State} (h : EndedWithError t) (hgen : GeneratorInv t) : StateInv t := by
  obtain ⟨hp, hd, herr, hresult⟩ := h
  exact stateInv_of_done hp hd hgen (.inr ⟨herr, hresult⟩)

/-! ### RESET -/

theorem stateInv_resetEvent (s : State) : StateInv (resetEvent s) := by simp [StateInv]

/-- Settles O40. The reset state is idle with every flag and the generator clear. -/
theorem resetMeetsTheInvariant : Obligations.ResetMeetsTheInvariant := by
  unfold Obligations.ResetMeetsTheInvariant
  simp [StateInv, State.reset]

/-! ### The accepts -/

/-- R122: the range checks put the candidate where the construction wants it. -/
theorem constructionInv_load {s : State} (hs : 2 ≤ s.arg1.toNat ∧ s.arg1.toNat + 2 ≤ s.arg0.toNat)
    (hv : s.bbsValid = false) : ConstructionInv (loadGenerator s) := fun _ => ⟨hv, hs.1, hs.2, rfl⟩

/-- An accept leaves the generator or drops it (R122). -/
theorem generatorInv_exec_idle {c : Instr} {s t : State} (hp : s.phase = .idle) (hgen : GeneratorInv s)
    (h : exec c s = .next t) : GeneratorInv t := by
  by_cases hinit : c = .bbsInit
  · subst hinit
    obtain ⟨hv, -⟩ := exec_bbsInit_generator hp h
    simp [hv]
  · obtain ⟨-, -, hsame, -⟩ := exec_idle_keeps_other_units hp h
    obtain ⟨hn, hx, hv⟩ := hsame hinit
    simpa only [GeneratorInv, hn, hx, hv] using hgen

/-- An accept of a command keeps the invariant. -/
theorem stateInv_exec_idle {c : Instr} {s t : State} (hp : s.phase = .idle) (hs : StateInv s)
    (h : exec c s = .next t) : StateInv t := by
  obtain ⟨-, hgen, -⟩ := hs
  have hgen' := generatorInv_exec_idle hp hgen h
  rcases exec_idle_ends_or_starts hp h with hend | ⟨hbusy, hdone, herr, -⟩
  · exact stateInv_of_endedWithError hend hgen'
  obtain ⟨u, hu, hcases⟩ := exec_idle_cases c hp
  obtain rfl : u = t := Host.Outcome.next.inj (hu.symm.trans h)
  rcases hcases with
    ⟨-, -, rfl⟩ | ⟨-, hm, rfl⟩ | ⟨-, rfl⟩ | ⟨-, -, rfl⟩ | ⟨-, -, -, rfl⟩ | ⟨-, hrange, rfl⟩ | ⟨-, hv, rfl⟩ |
    ⟨-, -, rfl⟩
  · exact absurd rfl hbusy
  · exact stateInv_of_busy hbusy hdone herr (modexpInv_load (s := clearOutcome s) hm) hgen' (by simp) (by simp)
  · exact stateInv_of_busy hbusy hdone herr (by simp) hgen' (by simp) (by simp)
  · exact absurd rfl hbusy
  · exact absurd rfl hbusy
  · exact stateInv_of_busy hbusy hdone herr (by simp) hgen'
      (constructionInv_load (s := dropGenerator (clearOutcome s)) hrange rfl) (by simp)
  · exact stateInv_of_busy hbusy hdone herr (by simp) hgen' (by simp) fun _ => hv
  · exact absurd rfl hbusy

theorem AcceptsWord.stateInv {w : Word} {s t : State} (h : AcceptsWord w s t) (hs : StateInv s) : StateInv t := by
  obtain ⟨hp, rest, -, ⟨c, -, hc⟩ | rfl⟩ := h.cases
  · exact stateInv_exec_idle (s := setLines rest s) hp hs hc
  · obtain ⟨-, hgen, -⟩ := hs
    exact stateInv_of_endedWithError (raise_illegalCommand_ended _) hgen

theorem stateInv_hostStep {s t : State} (hs : StateInv s) (h : hostStep s = .next t) : StateInv t := by
  rcases hostStep_sameCommand_or_accepts h with ⟨hsame, hovr⟩ | ⟨w, haccept⟩
  · exact stateInv_of_sameCommand hsame hovr hs
  · exact haccept.stateInv hs

/-! ### The CORE steps -/

/-- R36: a seed in `[2, N - 2]` that is coprime to `N` makes a generator with `N` at least 5 (the only candidate below
is `(4, 2)`). -/
theorem generatorInv_of_coprime {n x : Nat} (hx : 2 ≤ x) (hxn : x + 2 ≤ n) (hco : Nat.gcd x n = 1) :
    5 ≤ n ∧ 0 < x ∧ x < n ∧ Nat.gcd x n = 1 := by
  have hn : n ≠ 4 := by
    rintro rfl
    obtain rfl : x = 2 := by omega
    exact absurd hco (by decide)
  exact ⟨by omega, by omega, by omega, hco⟩

/-- With Euclid's pair at `(1, 0)` the candidate is coprime (R123). -/
theorem generatorInv_validate {s : State} (hp : s.phase = .initGcd) (hcon : ConstructionInv s) (hb : s.gcdB = 0)
    (ha : s.gcdA = 1) : GeneratorInv (validateGenerator s) := by
  obtain ⟨-, hx, hxn, hgcd⟩ := hcon hp
  intro _
  refine generatorInv_of_coprime hx hxn (hgcd.symm.trans ?_)
  simp [ha, hb]

/-- R127: the square of a unit modulo `N` is a unit, hence not 0. -/
theorem square_mod_coprime {n x : Nat} (hn : 5 ≤ n) (hco : Nat.gcd x n = 1) :
    0 < x * x % n ∧ x * x % n < n ∧ Nat.gcd (x * x % n) n = 1 := by
  have hsquare : Nat.gcd (x * x % n) n = 1 := by
    rw [← Nat.gcd_rec, Nat.gcd_comm]
    exact Nat.Coprime.mul_left hco hco
  refine ⟨Nat.pos_of_ne_zero fun h0 => ?_, Nat.mod_lt _ (by omega), hsquare⟩
  rw [h0, Nat.gcd_zero_left] at hsquare
  omega

theorem generatorInv_square {s : State} (hgen : GeneratorInv s) (hn : s.bbsN ≠ 0) : GeneratorInv (squareState s) := by
  intro hv
  obtain ⟨h5, -, -, hco⟩ := hgen hv
  simp only [squareState_bbsN, squareState_bbsState, mulmod_toNat _ _ _ hn]
  exact ⟨h5, square_mod_coprime h5 hco⟩

/-- Completing a command of a block with ERR clear. -/
theorem stateInv_completeWith {v : Word} {s : State} (hgen : GeneratorInv s) (he : s.err = 0) :
    StateInv (completeWith v s) := stateInv_of_done rfl rfl hgen (.inl he)

theorem stateInv_coreStep {s t : State} (hs : StateInv s) (h : coreStep s = .next t) : StateInv t := by
  by_cases hidle : s.phase = .idle
  · obtain rfl := Host.Outcome.next.inj ((coreStep_idle hidle).symm.trans h)
    exact hs
  obtain ⟨hmx, hgen, hcon, hsq, hbusy, -, -⟩ := hs
  obtain ⟨hdone, herr⟩ := hbusy hidle
  rcases coreStep_cases h with
    ⟨hp, -⟩ | ⟨hp, -, rfl⟩ | ⟨hp, -, -, rfl⟩ | ⟨hp, -, rfl⟩ | ⟨hp, -, rfl⟩ | ⟨hp, hb, ha, rfl⟩ | ⟨hp, -, -, rfl⟩ |
    ⟨hp, hn, rfl⟩
  · exact absurd hp hidle
  · exact stateInv_completeWith hgen herr
  · exact stateInv_of_busy hidle hdone herr (modexpInv_iterate hmx) hgen hcon hsq
  · exact stateInv_completeWith hgen herr
  · refine stateInv_of_busy hidle hdone herr hmx hgen (fun hinit => ?_) hsq
    obtain ⟨hv, hx, hxn, hgcd⟩ := hcon hinit
    exact ⟨hv, hx, hxn, (euclid_gcd s).trans hgcd⟩
  · exact stateInv_completeWith (generatorInv_validate hp hcon hb ha) herr
  · exact stateInv_of_endedWithError ⟨rfl, rfl, .inr (.inl rfl), rfl⟩ hgen
  · exact stateInv_completeWith (generatorInv_square hgen hn) herr

/-! ### Every step -/

/-- Settles O41: RESET establishes the invariant, and each agent's event keeps it. -/
theorem stepKeepsTheInvariant : Obligations.StepKeepsTheInvariant := by
  intro s t hs h
  rcases step_cases h with ⟨-, rfl⟩ | ⟨-, hcore⟩ | ⟨-, hhost⟩
  · exact stateInv_resetEvent _
  · exact stateInv_coreStep (s := dropTurn s) hs hcore
  · exact stateInv_hostStep (s := dropTurn s) hs hhost

/-- R32, R36: no divisor register in use is 0. -/
theorem coreStep_answers_of_stateInv {s : State} (hs : StateInv s) : ∃ t, coreStep s = .next t := by
  obtain ⟨hmx, hgen, -, hsq, -⟩ := hs
  refine coreStep_answers (fun hp => ?_) (fun hp => ?_)
  · obtain ⟨h2, -⟩ := hmx hp
    exact ne_zero_of_two_le h2
  · obtain ⟨h5, -⟩ := hgen (hsq hp)
    exact ne_zero_of_two_le (by omega)

/-- Settles O42: only a CORE step could stop, and it divides by a register that the invariant keeps from 0. -/
theorem machineNeverStops : Obligations.MachineNeverStops := by
  intro s hs
  cases hn : nextTurn s <;> rw [step_of_nextTurn hn, runTurn]
  · exact hostStep_answers _
  · exact coreStep_answers_of_stateInv (s := dropTurn s) hs
  · exact ⟨_, rfl⟩

/-- A CORE step of a state whose divisor in use is 0 faults. -/
theorem coreStep_zero_divisor {s : State}
    (h : (s.phase = .mxLoop ∧ s.mxE ≠ 0 ∧ s.mxM = 0) ∨ (s.phase = .bbsSq ∧ s.bbsN = 0)) :
    coreStep s = .fault .zeroModulus := by
  rcases h with ⟨hp, he, hm⟩ | ⟨hp, hn⟩
  · rw [coreStep_mxLoop hp, mxLoopStep, if_neg he, if_pos hm]
  · simp only [coreStep, hp, bbsSqStep, if_pos hn]

/-- A CORE step whose divisor in use is not 0 answers a next state. -/
theorem coreStep_answers_or_zero_divisor (s : State) :
    (∃ t, coreStep s = .next t) ∨ (s.phase = .mxLoop ∧ s.mxE ≠ 0 ∧ s.mxM = 0) ∨ (s.phase = .bbsSq ∧ s.bbsN = 0) := by
  by_cases hfirst : s.phase = .mxLoop ∧ s.mxM = 0
  · obtain ⟨hp, hm⟩ := hfirst
    by_cases he : s.mxE = 0
    · exact .inl ⟨_, coreStep_modexp_completes hp he⟩
    · exact .inr (.inl ⟨hp, he, hm⟩)
  · by_cases hsecond : s.phase = .bbsSq ∧ s.bbsN = 0
    · exact .inr (.inr hsecond)
    · exact .inl (coreStep_answers (fun hp hm => hfirst ⟨hp, hm⟩) (fun hp hn => hsecond ⟨hp, hn⟩))

/-- Settles O43. RESET and the host answer a next state always, a CORE step unless a divisor in use is 0. -/
theorem faultOnlyForAZeroDivisor : Obligations.FaultOnlyForAZeroDivisor := by
  intro s
  cases hn : nextTurn s <;> rw [step_of_nextTurn hn, runTurn]
  case host =>
    obtain ⟨t, ht⟩ := hostStep_answers (dropTurn s)
    simp [ht]
  case core =>
    rcases coreStep_answers_or_zero_divisor (dropTurn s) with ⟨t, ht⟩ | hzero
    · rw [ht]
      refine ⟨fun r => iff_of_false nofun fun ⟨_, _, hzero⟩ => ?_, nofun⟩
      exact nomatch ht.symm.trans (coreStep_zero_divisor (s := dropTurn s) hzero)
    · rw [coreStep_zero_divisor hzero]
      exact ⟨fun r => ⟨fun hr => ⟨(Host.Outcome.fault.inj hr).symm, rfl, hzero⟩, fun ⟨hr, _⟩ => hr ▸ rfl⟩, nofun⟩
  case reset => simp

end Sys2Proof.Machine
end

section
/-! PROOFS. Whole commands of `42_bbs.md` (R120 to R128), and the end of every command (R16, R202). -/

namespace Sys2Proof.Machine

/-! ### BBS_INIT -/

/-- The gcd in a word is 1 exactly when it is 1 as a number. -/
theorem word_eq_one_iff (w : Word) : w = 1 ↔ w.toNat = 1 := by
  rw [← BitVec.toNat_inj]
  rfl

/-- The last step of INIT_GCD, with Euclid's pair at `(g, 0)`: the generator is valid, or the seed is invalid (R123). -/
theorem coreStep_initGcd_decides {s : State} (hp : s.phase = .initGcd) (hb : s.gcdB = 0) :
    ∃ u, coreStep s = .next u ∧ u.phase = .idle ∧ u.done = true ∧ u.result = 0 ∧
      (s.gcdA.toNat = 1 → u.bbsValid = true ∧ u.err = s.err) ∧
      (s.gcdA.toNat ≠ 1 → u.bbsValid = s.bbsValid ∧ u.err = 4) := by
  by_cases ha : s.gcdA = 1
  · exact ⟨_, coreStep_initGcd_validates hp hb ha, rfl, rfl, rfl, fun _ => ⟨rfl, rfl⟩,
      fun hne => absurd ((word_eq_one_iff _).mp ha) hne⟩
  · exact ⟨_, coreStep_initGcd_raises hp hb ha, rfl, rfl, rfl, fun h1 => absurd ((word_eq_one_iff _).mpr h1) ha,
      fun _ => ⟨rfl, rfl⟩⟩

/-- The whole loop of INIT_GCD: Euclid's iterations and the step that decides. Only GCD_A, GCD_B, BBS_VALID and the
outcome change. -/
theorem coreRun_initGcd_decides {s : State} (hp : s.phase = .initGcd) :
    ∃ (n : Nat) (u : State), n ≤ 129 ∧ coreRun (n + 1) s = .next u ∧
      u.phase = .idle ∧ u.done = true ∧ u.result = 0 ∧
      (Nat.gcd s.gcdA.toNat s.gcdB.toNat = 1 → u.bbsValid = true ∧ u.err = s.err) ∧
      (Nat.gcd s.gcdA.toNat s.gcdB.toNat ≠ 1 → u.bbsValid = s.bbsValid ∧ u.err = 4) ∧
      SameOperands s u ∧ u.ovr = s.ovr ∧ SameHost s u ∧ u.bbsN = s.bbsN ∧ u.bbsState = s.bbsState ∧
      SameModexpUnit s u ∧ u.acc = s.acc := by
  obtain ⟨n, hn, ⟨g, hg, hrun⟩, -⟩ := euclid_ends (s := s) (.inr hp)
  obtain ⟨u, hu, hidle, hdone, hresult, hvalid, hinvalid⟩ :=
    coreStep_initGcd_decides (s := { s with gcdA := g, gcdB := 0 }) hp rfl
  obtain ⟨hargs, hovr, hhost, hmod⟩ := coreStep_keeps_rest hu
  obtain ⟨hmx, -, hacc, hstate, -⟩ := coreStep_keeps_other_units hu
  refine ⟨n, u, hn, (coreRun_add hrun).trans (coreRun_one hu), hidle, hdone, hresult, ?_⟩
  rw [← hg]
  exact ⟨hvalid, hinvalid, hargs, hovr, hhost, hmod, hstate (by simp [hp]), hmx (by simp [hp]),
    hacc (by simp [hp]) (by simp [hp])⟩

/-- Settles O15. The accept loads the candidate, and the loop decides on its greatest common divisor. -/
theorem bbsInitBuildsTheGenerator : Obligations.BbsInitBuildsTheGenerator := by
  intro s hp hlow hhigh
  obtain ⟨n, u, hn, hrun, hidle, hdone, hresult, hvalid, hinvalid, hargs, hovr, hhost, hmod, hstate, hmx, hacc⟩ :=
    coreRun_initGcd_decides (s := loadGenerator (dropGenerator (clearOutcome s))) rfl
  exact ⟨_, u, n, exec_bbsInit_loads hp ⟨hlow, hhigh⟩, hn, hrun, hidle, hdone, hresult, hmod, hstate, hvalid, hinvalid,
    hargs, hmx, hacc, hovr, hhost⟩

/-! ### BBS_NEXT -/

/-- Settles O18. The accept starts BBS_SQ, whose one step squares the state and completes with its low bit. -/
theorem bbsNextEmitsTheLowBit : Obligations.BbsNextEmitsTheLowBit := by
  intro s hp hv hn
  have hstate : (mulmod s.bbsState s.bbsState s.bbsN).toNat = s.bbsState.toNat ^ 2 % s.bbsN.toNat := by
    rw [mulmod_toNat _ _ _ hn, pow_two]
  exact ⟨_, _, exec_bbsNext_ready hp hv, coreRun_one (coreStep_bbsSq_completes rfl hn), rfl, hstate, lowBit_toNat _,
    rfl, rfl, rfl, rfl, hv, ⟨rfl, rfl, rfl⟩, ⟨rfl, rfl, rfl, rfl⟩, ⟨rfl, rfl⟩, rfl, rfl, rfl, rfl, rfl, rfl, rfl⟩

/-! ### The bit stream -/

/-- Squaring once and then `k` times is squaring `k + 1` times. -/
theorem square_mod_pow_two_pow (x n k : Nat) : (x ^ 2 % n) ^ 2 ^ k % n = x ^ 2 ^ (k + 1) % n := by
  rw [← Nat.pow_mod, ← pow_mul, ← pow_succ']

theorem nextBit_eq {s t u : State} (ht : exec .bbsNext s = .next t) (hu : coreRun 1 t = .next u) :
    nextBit s = .next u := by
  rw [nextBit, ht]
  exact hu

theorem nextBits_succ {k : Nat} {s t : State} (h : nextBit s = .next t) : nextBits (k + 1) s = nextBits k t := by
  rw [nextBits, h]

/-- `k + 1` bits of a valid generator leave the state squared as often, and the last bit in RESULT (R128). -/
theorem nextBits_of_valid {k : Nat} {s : State} (hp : s.phase = .idle) (hv : s.bbsValid = true) (hn : s.bbsN ≠ 0) :
    ∃ v, nextBits (k + 1) s = .next v ∧ v.bbsState.toNat = s.bbsState.toNat ^ 2 ^ (k + 1) % s.bbsN.toNat ∧
      v.result.toNat = v.bbsState.toNat % 2 ∧ v.bbsN = s.bbsN ∧ v.bbsValid = true ∧ v.phase = .idle ∧
      v.done = true ∧ v.err = 0 := by
  induction k generalizing s with
  | zero =>
    obtain ⟨t, u, ht, hu, -, hstate, hbit, hdone, herr, hidle, hmod, hvalid, -⟩ := bbsNextEmitsTheLowBit s hp hv hn
    exact ⟨u, nextBits_succ (nextBit_eq ht hu), hstate, hbit, hmod, hvalid, hidle, hdone, herr⟩
  | succ k ih =>
    obtain ⟨t, u, ht, hu, -, hstate, -, -, -, hidle, hmod, hvalid, -⟩ := bbsNextEmitsTheLowBit s hp hv hn
    obtain ⟨v, hrun, hstate', hrest⟩ := ih hidle hvalid (hmod ▸ hn)
    rw [hstate, hmod, square_mod_pow_two_pow] at hstate'
    rw [hmod] at hrest
    exact ⟨v, (nextBits_succ (nextBit_eq ht hu)).trans hrun, hstate', hrest⟩

/-- Settles O19: BBS_INIT leaves the valid generator `(N, seed)`, and the bits follow. -/
theorem bitStreamIsTheRepeatedSquare : Obligations.BitStreamIsTheRepeatedSquare := by
  intro s k hp hlow hhigh hco hk
  obtain ⟨t, u, n, ht, -, hu, hidle, -, -, hmod, hstate, hvalid, -⟩ := bbsInitBuildsTheGenerator s hp hlow hhigh
  obtain ⟨hv, -⟩ := hvalid hco
  have hn : u.bbsN ≠ 0 := hmod ▸ ne_zero_of_two_le (by omega)
  obtain ⟨v, hrun, hfinal⟩ := nextBits_of_valid (k := k - 1) hidle hv hn
  rw [Nat.sub_add_cancel hk] at hrun hfinal
  rw [hmod, hstate] at hfinal
  exact ⟨t, u, v, n + 1, ht, hu, hrun, hfinal⟩

/-! ### Every command ends -/

theorem bitlen_le (w : Word) : bitlen w ≤ 64 := Nat.size_le.mpr w.isLt

/-- Settles O38, phase by phase: MODEXP by its exponent's length, the two Euclid loops by R116, BBS_NEXT in one step. -/
theorem everyRunningCommandCompletes : Obligations.EveryRunningCommandCompletes := by
  rintro s ⟨hmx, hgen, -, hsq, hbusy, -, -⟩ hp
  obtain ⟨-, herr⟩ := hbusy hp
  cases hphase : s.phase
  case idle => exact absurd hphase hp
  case mxLoop =>
    have hlen := bitlen_le s.mxE
    obtain ⟨_, _, _, _, -, hrun⟩ := coreRun_modexp_completes hphase hmx
    exact ⟨_, _, by omega, hrun, rfl, rfl, .inl herr⟩
  case gcdLoop =>
    obtain ⟨n, hn, ⟨g, -, hrun⟩, -⟩ := euclid_ends (.inl hphase)
    exact ⟨n + 1, _, by omega, (coreRun_add hrun).trans (coreRun_one (coreStep_gcd_completes hphase rfl)), rfl, rfl,
      .inl herr⟩
  case initGcd =>
    obtain ⟨n, u, hn, hrun, hidle, hdone, hresult, hvalid, hinvalid, -⟩ := coreRun_initGcd_decides hphase
    refine ⟨n + 1, u, by omega, hrun, hidle, hdone, ?_⟩
    by_cases hco : Nat.gcd s.gcdA.toNat s.gcdB.toNat = 1
    · obtain ⟨-, hsame⟩ := hvalid hco
      exact .inl (hsame.trans herr)
    · obtain ⟨-, hcode⟩ := hinvalid hco
      exact .inr ⟨hcode, hresult⟩
  case bbsSq =>
    obtain ⟨h5, -⟩ := hgen (hsq hphase)
    exact ⟨1, _, by omega, coreRun_one (coreStep_bbsSq_completes hphase (ne_zero_of_two_le (by omega))), rfl, rfl,
      .inl herr⟩

end Sys2Proof.Machine
end

section
/-! PROOFS. A command's course depends on the command's state alone (R58, R61), so the interleaving does not change
it. -/

namespace Sys2Proof.Machine

/-! ### Sameness of the command's state -/

theorem sameCommand_symm {s t : State} (h : SameCommand s t) : SameCommand t s := by
  obtain ⟨hphase, hresult, hdone, herr, hacc, ⟨hn, hx, hv⟩, ⟨hr, hb, he, hm⟩, hga, hgb⟩ := h
  exact ⟨hphase.symm, hresult.symm, hdone.symm, herr.symm, hacc.symm, ⟨hn.symm, hx.symm, hv.symm⟩,
    ⟨hr.symm, hb.symm, he.symm, hm.symm⟩, hga.symm, hgb.symm⟩

theorem sameCommand_trans {s t u : State} (h : SameCommand s t) (h' : SameCommand t u) : SameCommand s u := by
  obtain ⟨hphase, hresult, hdone, herr, hacc, ⟨hn, hx, hv⟩, ⟨hr, hb, he, hm⟩, hga, hgb⟩ := h
  simpa only [SameCommand, SameGenerator, SameModexpUnit, SameGcdUnit, hphase, hresult, hdone, herr, hacc, hn, hx, hv,
    hr, hb, he, hm, hga, hgb] using h'

theorem sameCommand_dropTurn (s : State) : SameCommand (dropTurn s) s := by simp

/-! ### CORE steps of two blocks with the same command -/

theorem coreStep_sameCommand {s t r : State} (h : SameCommand s t) (hr : coreStep s = .next r) :
    ∃ r', coreStep t = .next r' ∧ SameCommand r r' := by
  have hsame := h
  obtain ⟨hphase, -, hdone, herr, hacc, ⟨hn, hx, hv⟩, ⟨hmr, hmb, hme, hmm⟩, hga, hgb⟩ := h
  rcases coreStep_cases hr with
    ⟨hp, rfl⟩ | ⟨hp, he, rfl⟩ | ⟨hp, he, hm, rfl⟩ | ⟨hp, hb, rfl⟩ | ⟨hp, hb, rfl⟩ | ⟨hp, hb, ha, rfl⟩ |
    ⟨hp, hb, ha, rfl⟩ | ⟨hp, hm, rfl⟩
  · exact ⟨t, coreStep_idle (hphase.trans hp), hsame⟩
  · exact ⟨_, coreStep_modexp_completes (hphase.trans hp) (hme.trans he), by simp [*]⟩
  · exact ⟨_, coreStep_modexp_iterates (hphase.trans hp) (hme ▸ he) (hmm ▸ hm), by simp [*]⟩
  · exact ⟨_, coreStep_gcd_completes (hphase.trans hp) (hgb.trans hb), by simp [*]⟩
  · exact ⟨_, coreStep_euclid (hphase ▸ hp) (hgb ▸ hb), by simp [*]⟩
  · exact ⟨_, coreStep_initGcd_validates (hphase.trans hp) (hgb.trans hb) (hga.trans ha), by simp [*]⟩
  · exact ⟨_, coreStep_initGcd_raises (hphase.trans hp) (hgb.trans hb) (hga ▸ ha), by simp [*]⟩
  · exact ⟨_, coreStep_bbsSq_completes (hphase.trans hp) (hn ▸ hm), by simp [*]⟩

/-- A run of at least one CORE step that answers a next state takes a first step that does. -/
theorem coreRun_succ_cases {n : Nat} {s t : State} (h : coreRun (n + 1) s = .next t) :
    ∃ r, coreStep s = .next r ∧ coreRun n r = .next t := by
  rw [coreRun] at h
  cases hs : coreStep s with
  | next r => exact ⟨r, rfl, by rwa [hs] at h⟩
  | fault r => rw [hs] at h; cases h
  | refused r => rw [hs] at h; cases h

theorem coreRun_sameCommand {n : Nat} {s t w : State} (h : SameCommand s t) (hw : coreRun n s = .next w) :
    ∃ w', coreRun n t = .next w' ∧ SameCommand w w' := by
  induction n generalizing s t with
  | zero =>
    obtain rfl := Host.Outcome.next.inj hw
    exact ⟨t, rfl, h⟩
  | succ n ih =>
    obtain ⟨r, hr, hrest⟩ := coreRun_succ_cases hw
    obtain ⟨r', hr', hsame⟩ := coreStep_sameCommand h hr
    rw [coreRun_succ hr']
    exact ih hsame hrest

/-- Once the block is idle, CORE steps change nothing. -/
theorem coreRun_idle {n : Nat} {s : State} (hp : s.phase = .idle) : coreRun n s = .next s := by
  induction n with
  | zero => rfl
  | succ n ih => rw [coreRun_succ (coreStep_idle hp), ih]

/-! ### The schedule -/

theorem hostStep_turns {s t : State} (h : hostStep s = .next t) : t.turns = s.turns := by
  rcases hostStep_cases h with
    ⟨_, _, _, _, rfl⟩ | ⟨_, _, _, rfl⟩ | ⟨_, _, _, rfl⟩ | ⟨_, _, _, rfl⟩ | ⟨w, rest, _, hw⟩
  case inr.inr.inr.inr =>
    obtain ⟨_, _, hturns, _⟩ := writeCmd_keeps_rest hw
    exact hturns
  all_goals rfl

/-- Every step uses up one turn of the schedule. -/
theorem step_turns {s t : State} (h : step s = .next t) : t.turns = s.turns.tail := by
  rcases step_cases h with ⟨_, rfl⟩ | ⟨_, hcore⟩ | ⟨_, hhost⟩
  · rfl
  · obtain ⟨_, _, ⟨_, hturns, _⟩, _⟩ := coreStep_keeps_rest hcore
    exact hturns
  · exact hostStep_turns hhost

theorem step_keeps_noReset {s t : State} (hr : Turn.reset ∉ s.turns) (h : step s = .next t) : Turn.reset ∉ t.turns := by
  rw [step_turns h]
  exact fun hmem => hr (List.mem_of_mem_tail hmem)

theorem nextTurn_ne_reset {s : State} (hr : Turn.reset ∉ s.turns) : nextTurn s ≠ .reset := by
  cases hts : s.turns with
  | nil =>
    rw [nextTurn_of_nil hts]
    split <;> simp
  | cons a rest =>
    rw [nextTurn_of_cons hts]
    rintro rfl
    exact hr (hts ▸ List.mem_cons_self)

/-- A step of a busy block is a CORE step of the command, or leaves the command alone. -/
theorem step_busy_cases {s t : State} (hp : s.phase ≠ .idle) (hr : Turn.reset ∉ s.turns) (h : step s = .next t) :
    (∃ r, coreStep s = .next r ∧ SameCommand r t) ∨ SameCommand s t := by
  rcases step_command_cases h (nextTurn_ne_reset hr) with ⟨_, hcore⟩ | ⟨_, hsame⟩ | ⟨_, _, hidle, _⟩
  · obtain ⟨r, hr, hsame⟩ := coreStep_sameCommand (sameCommand_dropTurn s) hcore
    exact .inl ⟨r, hr, sameCommand_symm hsame⟩
  · exact .inr hsame
  · exact absurd hidle hp

/-- Settles O37, by induction on the run: each step is a CORE step of the command or does not count. -/
theorem interleavingDoesNotChangeTheCommand : Obligations.InterleavingDoesNotChangeTheCommand := by
  intro k
  induction k with
  | zero =>
    intro s t _ _ h
    obtain rfl := Host.Outcome.next.inj h
    exact ⟨0, s, le_rfl, rfl, by simp⟩
  | succ k ih =>
    intro s t hr hbusy h
    obtain ⟨s₁, hstep, hrun⟩ := runSteps_succ_cases h
    have hbusy₁ : ∀ (j : Nat) (r : State), j < k → runSteps j s₁ = .next r → r.phase ≠ .idle := fun j r hj hj' =>
      hbusy (j + 1) r (Nat.succ_lt_succ hj) ((runSteps_succ hstep).trans hj')
    obtain ⟨c, u, hc, hu, hut⟩ := ih s₁ t (step_keeps_noReset hr hstep) hbusy₁ hrun
    rcases step_busy_cases (hbusy 0 s (Nat.succ_pos k) rfl) hr hstep with ⟨r, hcore, hsame⟩ | hsame
    · obtain ⟨u', hu', huu'⟩ := coreRun_sameCommand (sameCommand_symm hsame) hu
      exact ⟨c + 1, u', Nat.succ_le_succ hc, (coreRun_succ hcore).trans hu',
        sameCommand_trans (sameCommand_symm huu') hut⟩
    · obtain ⟨u', hu', huu'⟩ := coreRun_sameCommand (sameCommand_symm hsame) hu
      exact ⟨c, u', Nat.le_succ_of_le hc, hu', sameCommand_trans (sameCommand_symm huu') hut⟩

end Sys2Proof.Machine
end

section
/-! PROOFS. The host's lines of R80 and R142: WAIT, the pair of a CALL, and the turns of a BITSEQ. -/

namespace Sys2Proof.Machine

theorem hostStep_wait_busy {s : State} {rest : List HostLine} (h : s.lines = .wait :: rest) (hp : s.phase ≠ .idle) :
    hostStep s = .next (recordRead idxStatus s) := by
  have hread : busyOf (regRead idxStatus s) = true := by rwa [busyOf_status, busy_iff]
  simp only [hostStep, h, if_pos hread]

theorem hostStep_wait_idle {s : State} {rest : List HostLine} (h : s.lines = .wait :: rest) (hp : s.phase = .idle) :
    hostStep s = .next (recordRead idxStatus (setLines rest s)) := by
  have hread : ¬(busyOf (regRead idxStatus s) = true) := by rwa [busyOf_status, busy_iff, not_not]
  simp only [hostStep, h, if_neg hread]

theorem hostStep_yieldPair {s : State} {rest : List HostLine} (h : s.lines = .yieldPair :: rest) :
    hostStep s = .next (yieldCall (setLines rest s)) := by
  rw [hostStep, h]

theorem hostStep_bitseq_zero {s : State} {out : List Bool} {rest : List HostLine}
    (h : s.lines = .bitseq 0 out :: rest) :
    hostStep s = .next (returnBitseq (.bits out) (setLines rest s)) := by
  rw [hostStep, h]

theorem hostStep_bitseq_succ {s : State} {n : Nat} {out : List Bool} {rest : List HostLine}
    (h : s.lines = .bitseq (n + 1) out :: rest) :
    hostStep s = .next (setLines (callLines .bbsNext ++ .bitseqRest n out :: rest) s) := by
  rw [hostStep, h]

theorem hostStep_bitseqRest {s : State} {n : Nat} {out : List Bool} {rest : List HostLine}
    (h : s.lines = .bitseqRest n out :: rest) :
    hostStep s = .next (afterBit n out (callPair s) rest s) := by
  rw [hostStep, h]

/-- Settles O28. Bit 0 of the STATUS value read is BUSY. -/
theorem waitPollsUntilIdle : Obligations.WaitPollsUntilIdle :=
  fun _ _ h => ⟨hostStep_wait_busy h, hostStep_wait_idle h⟩

/-- Settles O44. The lines are those of `callLines`, and the pair is made of the two values read. -/
theorem callYieldsItsPair : Obligations.CallYieldsItsPair := by
  refine ⟨fun _ => rfl, fun s v r older rest hl hreads => ?_⟩
  rw [hostStep_yieldPair hl, yieldCall, callPair_of_reads (s := setLines rest s) hreads]
  rfl

/-- Settles O29. The test of a BITSEQ is `afterBit` on the pair just read. -/
theorem bitseqCallsBbsNext : Obligations.BitseqCallsBbsNext := by
  intro s n out rest
  refine ⟨hostStep_bitseq_zero, hostStep_bitseq_succ, fun r v older hl hreads => ?_⟩
  rw [hostStep_bitseqRest hl, callPair_of_reads hreads]
  exact ⟨fun herr => congrArg _ (afterBit_ok herr), fun herr => congrArg _ (afterBit_error herr)⟩

end Sys2Proof.Machine
end

section
/-! PROOFS. A whole CALL (R80, R141) and a whole BITSEQ (R142), under every schedule without RESET. -/

namespace Sys2Proof.Machine

/-! ### Runs counted against the schedule -/

/-- `s` with another schedule. -/
def withTurns (ts : List Turn) (s : State) : State := { s with turns := ts }

/-- The machine gets from `s` to `t` in the turns of the schedule that it uses up and at most `b` steps more; no RESET
is ahead in `t`. -/
def Reaches (b : Nat) (s t : State) : Prop :=
  Turn.reset ∉ t.turns ∧ ∃ k, runSteps k s = .next t ∧ k + t.turns.length ≤ s.turns.length + b

theorem Reaches.noReset {b : Nat} {s t : State} (h : Reaches b s t) : Turn.reset ∉ t.turns := h.1

theorem Reaches.exists_run {b : Nat} {s t : State} (h : Reaches b s t) :
    ∃ k, k ≤ s.turns.length + b ∧ runSteps k s = .next t := by
  obtain ⟨-, k, hk, hle⟩ := h
  exact ⟨k, by omega, hk⟩

theorem runSteps_add {m n : Nat} {s t : State} (h : runSteps m s = .next t) : runSteps (m + n) s = runSteps n t := by
  induction m generalizing s with
  | zero =>
    obtain rfl := Host.Outcome.next.inj h
    rw [Nat.zero_add]
  | succ m ih =>
    obtain ⟨r, hr, hrest⟩ := runSteps_succ_cases h
    rw [Nat.add_right_comm, runSteps_succ hr, ih hrest]

theorem Reaches.refl {s : State} (hr : Turn.reset ∉ s.turns) : Reaches 0 s s := ⟨hr, 0, rfl, by omega⟩

theorem Reaches.mono {a b : Nat} {s t : State} (h : Reaches a s t) (hab : a ≤ b) : Reaches b s t := by
  obtain ⟨hr, k, hk, hle⟩ := h
  exact ⟨hr, k, hk, by omega⟩

theorem Reaches.trans {a b : Nat} {s t u : State} (h : Reaches a s t) (h' : Reaches b t u) : Reaches (a + b) s u := by
  obtain ⟨-, k, hk, hle⟩ := h
  obtain ⟨hr, l, hl, hle'⟩ := h'
  exact ⟨hr, k + l, (runSteps_add hk).trans hl, by omega⟩

/-- Any one step takes at most one step more than the schedule. -/
theorem Reaches.of_step {s t : State} (hr : Turn.reset ∉ s.turns) (h : step s = .next t) : Reaches 1 s t := by
  have hlen : t.turns.length = s.turns.length - 1 := by rw [step_turns h, List.length_tail]
  exact ⟨step_keeps_noReset hr h, 1, runSteps_succ h, by omega⟩

/-- A step that the schedule names is free. -/
theorem Reaches.of_scheduled_step {a : Turn} {ts : List Turn} {s t : State} (hr : Turn.reset ∉ s.turns)
    (hts : s.turns = a :: ts) (h : step s = .next t) : Reaches 0 s t := by
  have hlen : t.turns.length + 1 = s.turns.length := by rw [step_turns h, hts, List.tail_cons, List.length_cons]
  exact ⟨step_keeps_noReset hr h, 1, runSteps_succ h, by omega⟩

/-! ### The host's turns in an idle block -/

/-- In an idle block the schedule's CORE turns pass, and then the host has its event. -/
theorem reaches_hostStep {g : List Turn → State} {s : State} (hr : Turn.reset ∉ s.turns) (hp : s.phase = .idle)
    (hg : ∀ ts, hostStep (withTurns ts s) = .next (g ts)) : ∃ ts, Reaches 1 s (g ts) := by
  induction hts : s.turns generalizing s with
  | nil =>
    have hself : withTurns [] s = s := by rw [withTurns, ← hts]
    exact ⟨[], .of_step hr ((step_of_nil_idle hts hp).trans (hself ▸ hg []))⟩
  | cons a ts ih =>
    have hstep := step_of_cons hts
    cases a with
    | host => exact ⟨ts, .of_step hr (hstep.trans (hg ts))⟩
    | core =>
      have hpass : step s = .next (withTurns ts s) := hstep.trans (coreStep_idle (s := withTurns ts s) hp)
      obtain ⟨ts', hrest⟩ := ih (s := withTurns ts s) (step_keeps_noReset hr hpass) hp hg rfl
      exact ⟨ts', ((Reaches.of_scheduled_step hr hts hpass).trans hrest).mono (by omega)⟩
    | reset => exact absurd (hts ▸ List.mem_cons_self) hr

/-- An accept does not see the host's data. -/
theorem exec_withHost {c : Instr} {s t : State} (ls : List HostLine) (ts : List Turn) (hp : s.phase = .idle)
    (h : exec c s = .next t) : exec c (setLines ls (withTurns ts s)) = .next (setLines ls (withTurns ts t)) := by
  obtain ⟨u, hu, hcases⟩ := exec_idle_cases c hp
  obtain rfl : u = t := Host.Outcome.next.inj (hu.symm.trans h)
  rcases hcases with
    ⟨rfl, hm, rfl⟩ | ⟨rfl, hm, rfl⟩ | ⟨rfl, rfl⟩ | ⟨rfl, hn, rfl⟩ | ⟨rfl, hn, hs, rfl⟩ | ⟨rfl, hs, rfl⟩ |
    ⟨rfl, hv, rfl⟩ | ⟨rfl, hv, rfl⟩
  · exact exec_modexp_raises (s := setLines ls (withTurns ts s)) hp hm
  · exact exec_modexp_loads (s := setLines ls (withTurns ts s)) hp hm
  · exact exec_gcd_loads (s := setLines ls (withTurns ts s)) hp
  · exact exec_bbsInit_badModulus (s := setLines ls (withTurns ts s)) hp hn
  · exact exec_bbsInit_badSeed (s := setLines ls (withTurns ts s)) hp hn hs
  · exact exec_bbsInit_loads (s := setLines ls (withTurns ts s)) hp hs
  · exact exec_bbsNext_ready (s := setLines ls (withTurns ts s)) hp hv
  · exact exec_bbsNext_notReady (s := setLines ls (withTurns ts s)) hp hv

theorem reaches_accept {c : Instr} {s t : State} {rest : List HostLine} (hr : Turn.reset ∉ s.turns)
    (hp : s.phase = .idle) (hl : s.lines = cmdLine c :: rest) (h : exec c s = .next t) :
    ∃ ts, Reaches 1 s (setLines rest (withTurns ts t)) := by
  refine reaches_hostStep (g := fun ts => setLines rest (withTurns ts t)) hr hp fun ts => ?_
  rw [hostStep_wr (s := withTurns ts s) hl, regWrite_cmd, writeCmd_encode]
  exact exec_withHost rest ts hp h

/-! ### WAIT while the command runs -/

/-- What a CALL leaves alone beside the command: the operands, OVR, and what the host's BITSEQs have returned. -/
def SameAround (s t : State) : Prop := SameOperands s t ∧ t.ovr = s.ovr ∧ t.bitseqs = s.bitseqs

theorem SameAround.refl (s : State) : SameAround s s := ⟨⟨rfl, rfl, rfl⟩, rfl, rfl⟩

theorem SameAround.trans {s t u : State} (h : SameAround s t) (h' : SameAround t u) : SameAround s u := by
  obtain ⟨⟨h0, h1, h2⟩, hovr, hbitseqs⟩ := h
  obtain ⟨⟨h0', h1', h2'⟩, hovr', hbitseqs'⟩ := h'
  exact ⟨⟨h0'.trans h0, h1'.trans h1, h2'.trans h2⟩, hovr'.trans hovr, hbitseqs'.trans hbitseqs⟩

/-- A CORE turn takes the command one CORE step on. -/
theorem step_core_turn {s r : State} (hn : nextTurn s = .core) (hc : coreStep s = .next r) :
    ∃ t, step s = .next t ∧ SameCommand r t ∧ SameAround s t ∧ t.lines = s.lines ∧ t.calls = s.calls := by
  obtain ⟨t, ht, hsame⟩ := coreStep_sameCommand (sameCommand_symm (sameCommand_dropTurn s)) hc
  obtain ⟨hargs, hovr, ⟨hlines, -, -, hcalls, hbitseqs, -⟩, -⟩ := coreStep_keeps_rest ht
  exact ⟨t, (step_of_nextTurn hn).trans ht, hsame, ⟨hargs, hovr, hbitseqs⟩, hlines, hcalls⟩

/-- In a busy block the host polls for as long as the schedule gives it the turns, and then the CORE has its turn. -/
theorem reaches_core_turn {s : State} {rest : List HostLine} (hp : s.phase ≠ .idle) (hr : Turn.reset ∉ s.turns)
    (hl : s.lines = .wait :: rest) :
    ∃ t, Reaches 0 s t ∧ nextTurn t = .core ∧ SameCommand s t ∧ SameAround s t ∧ t.lines = s.lines ∧
      t.calls = s.calls := by
  induction hts : s.turns generalizing s with
  | nil => exact ⟨s, .refl hr, (nextTurn_of_nil hts).trans (if_neg hp), by simp, .refl s, rfl, rfl⟩
  | cons a ts ih =>
    cases a with
    | core => exact ⟨s, .refl hr, nextTurn_of_cons hts, by simp, .refl s, rfl, rfl⟩
    | host =>
      have hpoll : step s = .next (recordRead idxStatus (withTurns ts s)) :=
        (step_of_cons hts).trans (hostStep_wait_busy (s := withTurns ts s) hl hp)
      obtain ⟨t, hst, hrest⟩ :=
        ih (s := recordRead idxStatus (withTurns ts s)) hp (step_keeps_noReset hr hpoll) hl rfl
      exact ⟨t, (Reaches.of_scheduled_step hr hts hpoll).trans hst, hrest⟩
    | reset => exact absurd (hts ▸ List.mem_cons_self) hr

/-- While the host polls, the command gets to its end, `w`, in the CORE steps it needs alone. -/
theorem reaches_end_of_command {n : Nat} {s w : State} {rest : List HostLine} (hr : Turn.reset ∉ s.turns)
    (hl : s.lines = .wait :: rest) (hrun : coreRun n s = .next w) (hw : w.phase = .idle) :
    ∃ u, Reaches n s u ∧ SameCommand w u ∧ SameAround s u ∧ u.lines = s.lines ∧ u.calls = s.calls := by
  induction n generalizing s w with
  | zero =>
    obtain rfl := Host.Outcome.next.inj hrun
    exact ⟨s, .refl hr, by simp, .refl s, rfl, rfl⟩
  | succ n ih =>
    by_cases hp : s.phase = .idle
    · obtain rfl := Host.Outcome.next.inj ((coreRun_idle hp).symm.trans hrun)
      exact ⟨s, (Reaches.refl hr).mono (Nat.zero_le _), by simp, .refl s, rfl, rfl⟩
    obtain ⟨p, hsp, hturn, hsame, haround, hlines, hcalls⟩ := reaches_core_turn hp hr hl
    obtain ⟨r, hcore, hrest⟩ := coreRun_succ_cases hrun
    obtain ⟨r', hcore', hrr'⟩ := coreStep_sameCommand hsame hcore
    obtain ⟨t, ht, hrt, haround', hlines', hcalls'⟩ := step_core_turn hturn hcore'
    obtain ⟨w', hw', hww'⟩ := coreRun_sameCommand (sameCommand_trans hrr' hrt) hrest
    obtain ⟨hidle, -⟩ := id hww'
    have hst := hsp.trans (.of_step hsp.noReset ht)
    obtain ⟨u, htu, hwu, haround'', hlines'', hcalls''⟩ :=
      ih hst.noReset (hlines'.trans (hlines.trans hl)) hw' (hidle.trans hw)
    exact ⟨u, (hst.trans htu).mono (by omega), sameCommand_trans hww' hwu, (haround.trans haround').trans haround'',
      hlines''.trans (hlines'.trans hlines), hcalls''.trans (hcalls'.trans hcalls)⟩

/-! ### A whole CALL -/

/-- A line that reads index `i` in an idle block: the host has the value, and `rest` is next. -/
theorem reaches_read {i : RegIndex} {s : State} {rest : List HostLine} (hr : Turn.reset ∉ s.turns)
    (hp : s.phase = .idle)
    (hl : ∀ ts, hostStep (withTurns ts s) = .next (recordRead i (setLines rest (withTurns ts s)))) :
    ∃ u, Reaches 1 s u ∧ SameCommand s u ∧ SameAround s u ∧ u.lines = rest ∧ u.calls = s.calls ∧
      u.reads = ⟨i, regRead i s⟩ :: s.reads := by
  obtain ⟨ts, h⟩ := reaches_hostStep hr hp hl
  exact ⟨_, h, by simp [withTurns], ⟨⟨rfl, rfl, rfl⟩, rfl, rfl⟩, rfl, rfl, rfl⟩

/-- The last line of a CALL. -/
theorem reaches_yield {s : State} {rest : List HostLine} (hr : Turn.reset ∉ s.turns) (hp : s.phase = .idle)
    (hl : s.lines = .yieldPair :: rest) :
    ∃ u, Reaches 1 s u ∧ SameCommand s u ∧ SameAround s u ∧ u.lines = rest ∧ u.calls = callPair s :: s.calls ∧
      callPair u = callPair s := by
  obtain ⟨ts, h⟩ := reaches_hostStep hr hp fun ts => hostStep_yieldPair (s := withTurns ts s) hl
  exact ⟨_, h, by simp [withTurns], ⟨⟨rfl, rfl, rfl⟩, rfl, rfl⟩, rfl, rfl, rfl⟩

/-- The end of a CALL on a block that has come to rest: WAIT is over, STATUS and RESULT are read, the pair is theirs. -/
theorem reaches_pair {s : State} {rest : List HostLine} (hr : Turn.reset ∉ s.turns) (hp : s.phase = .idle)
    (hl : s.lines = .wait :: .rd idxStatus :: .rd idxResult :: .yieldPair :: rest) :
    ∃ u, Reaches 4 s u ∧ SameCommand s u ∧ SameAround s u ∧ u.lines = rest ∧
      u.calls = ⟨s.err, s.result⟩ :: s.calls ∧ callPair u = ⟨s.err, s.result⟩ := by
  obtain ⟨s₁, h₁, hc₁, ha₁, hl₁, hcalls₁, -⟩ :=
    reaches_read hr hp fun ts => hostStep_wait_idle (s := withTurns ts s) hl hp
  have hp₁ : s₁.phase = .idle := hc₁.1.trans hp
  obtain ⟨s₂, h₂, hc₂, ha₂, hl₂, hcalls₂, hreads₂⟩ :=
    reaches_read h₁.noReset hp₁ fun ts => hostStep_rd (s := withTurns ts s₁) hl₁
  have hp₂ : s₂.phase = .idle := hc₂.1.trans hp₁
  obtain ⟨s₃, h₃, hc₃, ha₃, hl₃, hcalls₃, hreads₃⟩ :=
    reaches_read h₂.noReset hp₂ fun ts => hostStep_rd (s := withTurns ts s₂) hl₂
  obtain ⟨u, h₄, hc₄, ha₄, hl₄, hcalls₄, hpair⟩ := reaches_yield h₃.noReset (hc₃.1.trans hp₂) hl₃
  obtain ⟨-, -, -, herr, -⟩ := id hc₁
  obtain ⟨-, hresult, -⟩ := sameCommand_trans hc₁ hc₂
  have hread : callPair s₃ = ⟨s.err, s.result⟩ := by
    rw [callPair_of_reads (hreads₃.trans (congrArg _ hreads₂)), regRead_status, errOf_status, regRead_result, herr,
      hresult]
  refine ⟨u, ((h₁.trans h₂).trans h₃).trans h₄,
    sameCommand_trans (sameCommand_trans (sameCommand_trans hc₁ hc₂) hc₃) hc₄,
    ((ha₁.trans ha₂).trans ha₃).trans ha₄, hl₄, ?_, hpair.trans hread⟩
  rw [hcalls₄, hread, hcalls₃, hcalls₂, hcalls₁]

/-- A CALL to an idle block: the accept, the CORE steps to the command's end `w`, and four host turns; it yields the
pair (ERR, RESULT) of `w`. -/
theorem reaches_end_of_call {c : Instr} {n : Nat} {s t w : State} {rest : List HostLine} (hr : Turn.reset ∉ s.turns)
    (hp : s.phase = .idle) (hl : s.lines = callLines c ++ rest) (ht : exec c s = .next t)
    (hrun : coreRun n t = .next w) (hw : w.phase = .idle) :
    ∃ u, Reaches (n + 5) s u ∧ SameCommand w u ∧ SameAround s u ∧ u.lines = rest ∧
      u.calls = ⟨w.err, w.result⟩ :: s.calls ∧ callPair u = ⟨w.err, w.result⟩ := by
  obtain ⟨ts, haccept⟩ := reaches_accept hr hp hl ht
  obtain ⟨hargs, hovr, -, -, -, -, hcalls, hbitseqs, -⟩ := exec_idle_keeps_rest hp ht
  have haround : SameAround s t := ⟨hargs, hovr, hbitseqs⟩
  obtain ⟨w', hw', hww'⟩ := coreRun_sameCommand (t := setLines _ (withTurns ts t)) (by simp [withTurns]) hrun
  obtain ⟨hidle, -⟩ := id hww'
  obtain ⟨v, hend, hwv, haround', hlines, hcalls'⟩ :=
    reaches_end_of_command haccept.noReset rfl hw' (hidle.trans hw)
  have hsame : SameCommand w v := sameCommand_trans hww' hwv
  obtain ⟨hphase, hresult, -, herr, -⟩ := id hsame
  obtain ⟨u, hyield, hvu, haround'', hrest, hcalls'', hpair⟩ :=
    reaches_pair hend.noReset (hphase.trans hw) hlines
  rw [herr, hresult] at hcalls'' hpair
  refine ⟨u, ((haccept.trans hend).trans hyield).mono (by omega), sameCommand_trans hsame hvu,
    (haround.trans haround').trans haround'', hrest, hcalls''.trans ?_, hpair⟩
  exact congrArg _ (hcalls'.trans hcalls)

/-- From every idle state of the invariant a command's CORE steps end, at once if its accept raised (R16, R202). -/
theorem exec_completes {c : Instr} {s : State} (hs : StateInv s) (hp : s.phase = .idle) :
    ∃ (t w : State) (n : Nat), exec c s = .next t ∧ n ≤ 130 ∧ coreRun n t = .next w ∧ w.phase = .idle ∧
      w.done = true := by
  obtain ⟨t, ht, -⟩ := exec_idle_cases c hp
  rcases exec_idle_ends_or_starts hp ht with ⟨hidle, hdone, -⟩ | ⟨hbusy, -⟩
  · exact ⟨t, t, 0, ht, Nat.zero_le _, rfl, hidle, hdone⟩
  · obtain ⟨n, w, hn, hrun, hidle, hdone, -⟩ := everyRunningCommandCompletes t (stateInv_exec_idle hp hs ht) hbusy
    exact ⟨t, w, n, ht, hn, hrun, hidle, hdone⟩

/-- Settles O45: the CORE steps of the command bound the run between its accept and the four turns after it. -/
theorem callYieldsTheOutcomeOfItsCommand : Obligations.CallYieldsTheOutcomeOfItsCommand := by
  intro s c rest hs hp hr hl
  obtain ⟨t, w, n, ht, hn, hrun, hidle, hdone⟩ := exec_completes (c := c) hs hp
  obtain ⟨u, hreach, hsame, ⟨hargs, hovr, hbitseqs⟩, hlines, hcalls, -⟩ := reaches_end_of_call hr hp hl ht hrun hidle
  obtain ⟨k, hk, hsteps⟩ := hreach.exists_run
  exact ⟨t, w, u, n, k, ht, hn, hrun, hidle, hdone, by omega, hsteps, hsame, hargs, hovr, hlines, hcalls, hbitseqs⟩

/-! ### A whole BITSEQ -/

/-- The bits of a generator with modulus `m` and state `x`: the `i`-th is bit 0 of `x^(2^(i + 1)) mod m` (R128). -/
def streamBits (m x n : Nat) : List Bool := (List.range n).map fun i => decide (x ^ 2 ^ (i + 1) % m % 2 = 1)

theorem streamBits_succ (m x n : Nat) :
    streamBits m x (n + 1) = decide (x ^ 2 % m % 2 = 1) :: streamBits m (x ^ 2 % m) n := by
  simp [streamBits, List.range_succ_eq_map, Function.comp_def, square_mod_pow_two_pow]

/-- The last turn of a BITSEQ. -/
theorem reaches_return {s : State} {out : List Bool} {rest : List HostLine} (hr : Turn.reset ∉ s.turns)
    (hp : s.phase = .idle) (hl : s.lines = .bitseq 0 out :: rest) :
    ∃ ts, Reaches 1 s (returnBitseq (.bits out) (setLines rest (withTurns ts s))) :=
  reaches_hostStep hr hp fun ts => hostStep_bitseq_zero (s := withTurns ts s) hl

/-- One call of a BITSEQ to an idle block, from its turn to the test of its pair: the command's end is `w`. -/
theorem reaches_test {n m : Nat} {s t w : State} {out : List Bool} {rest : List HostLine}
    (hr : Turn.reset ∉ s.turns) (hp : s.phase = .idle) (hl : s.lines = .bitseq (n + 1) out :: rest)
    (ht : exec .bbsNext s = .next t) (hrun : coreRun m t = .next w) (hw : w.phase = .idle) :
    ∃ u, Reaches (m + 7) s (afterBit n out ⟨w.err, w.result⟩ rest u) ∧ SameCommand w u ∧ u.bitseqs = s.bitseqs := by
  obtain ⟨ts, hcall⟩ := reaches_hostStep hr hp fun ts => hostStep_bitseq_succ (s := withTurns ts s) hl
  obtain ⟨w', hw', hww'⟩ := coreRun_sameCommand (t := setLines _ (withTurns ts t)) (by simp [withTurns]) hrun
  obtain ⟨hidle, hresult, -, herr, -⟩ := id hww'
  obtain ⟨v, hend, hwv, ⟨-, -, hbitseqs⟩, hlines, -, hpair⟩ :=
    reaches_end_of_call hcall.noReset hp rfl (exec_withHost _ ts hp ht) hw' (hidle.trans hw)
  obtain ⟨hidle', -⟩ := id hwv
  obtain ⟨ts', htest⟩ := reaches_hostStep hend.noReset (hidle'.trans (hidle.trans hw))
    fun ts => hostStep_bitseqRest (s := withTurns ts v) hlines
  have hpair' : callPair (withTurns ts' v) = ⟨w.err, w.result⟩ := by rw [← herr, ← hresult]; exact hpair
  rw [hpair'] at htest
  exact ⟨withTurns ts' v, ((hcall.trans hend).trans htest).mono (by omega), sameCommand_trans hww' hwv, hbitseqs⟩

/-- A call that ends without error appends bit 0 of its RESULT, and the BITSEQ goes on. -/
theorem reaches_next_bit {n : Nat} {s : State} {out : List Bool} {rest : List HostLine} (hr : Turn.reset ∉ s.turns)
    (hp : s.phase = .idle) (hl : s.lines = .bitseq (n + 1) out :: rest) (hv : s.bbsValid = true) (hn : s.bbsN ≠ 0) :
    ∃ u, Reaches 8 s u ∧ u.phase = .idle ∧ u.bbsValid = true ∧ u.bbsN = s.bbsN ∧
      u.bbsState.toNat = s.bbsState.toNat ^ 2 % s.bbsN.toNat ∧ u.bitseqs = s.bitseqs ∧
      u.lines = .bitseq n (out ++ [decide (s.bbsState.toNat ^ 2 % s.bbsN.toNat % 2 = 1)]) :: rest := by
  obtain ⟨t, w, ht, hrun, -, hstate, hbit, -, herr, hidle, hmod, hvalid, -⟩ := bbsNextEmitsTheLowBit s hp hv hn
  obtain ⟨u, hreach, ⟨hphase, -, -, -, -, ⟨hmod', hstate', hvalid'⟩, -⟩, hbitseqs⟩ :=
    reaches_test hr hp hl ht hrun hidle
  rw [afterBit_ok herr, bitOf, bit0_eq, hbit, hstate, Nat.mod_mod] at hreach
  exact ⟨_, hreach, hphase.trans hidle, hvalid'.trans hvalid, hmod'.trans hmod, by rw [← hstate, ← hstate']; rfl,
    hbitseqs, rfl⟩

/-- A BITSEQ on a valid generator returns the bits it has and those of its calls, in call order (R142). -/
theorem reaches_bits {n : Nat} {s : State} {out : List Bool} {rest : List HostLine} (hr : Turn.reset ∉ s.turns)
    (hp : s.phase = .idle) (hl : s.lines = .bitseq n out :: rest) (hv : s.bbsValid = true) (hn : s.bbsN ≠ 0) :
    ∃ u, Reaches (8 * n + 1) s u ∧ u.phase = .idle ∧ u.lines = rest ∧
      u.bitseqs = .bits (out ++ streamBits s.bbsN.toNat s.bbsState.toNat n) :: s.bitseqs ∧
      u.bbsValid = true ∧ u.bbsN = s.bbsN ∧
      (u.bbsState = s.bbsState ∧ n = 0 ∨
        u.bbsState.toNat = s.bbsState.toNat ^ 2 ^ n % s.bbsN.toNat ∧ n ≠ 0) := by
  induction n generalizing s out with
  | zero =>
    obtain ⟨ts, h⟩ := reaches_return hr hp hl
    exact ⟨_, h, hp, rfl, by simp [streamBits, withTurns], hv, rfl, .inl ⟨rfl, rfl⟩⟩
  | succ n ih =>
    obtain ⟨t, hst, hidle, hvalid, hmod, hstate, hbitseqs, hlines⟩ := reaches_next_bit hr hp hl hv hn
    obtain ⟨u, htu, hidle', hrest, hbits, hvalid', hmod', hfinal⟩ :=
      ih hst.noReset hidle hlines hvalid (hmod ▸ hn)
    rw [hmod, hstate, hbitseqs, List.append_assoc, List.singleton_append, ← streamBits_succ] at hbits
    refine ⟨u, (hst.trans htu).mono (by omega), hidle', hrest, hbits, hvalid', hmod'.trans hmod,
      .inr ⟨?_, Nat.succ_ne_zero n⟩⟩
    rcases hfinal with ⟨hsame, rfl⟩ | ⟨hpow, -⟩
    · rw [hsame, hstate]
      rfl
    · rw [hpow, hstate, hmod, square_mod_pow_two_pow]

/-- With no valid generator the first call of a BITSEQ is its last: the accept raises GeneratorNotReady. -/
theorem reaches_notReady {n : Nat} {s : State} {out : List Bool} {rest : List HostLine} (hr : Turn.reset ∉ s.turns)
    (hp : s.phase = .idle) (hl : s.lines = .bitseq (n + 1) out :: rest) (hv : s.bbsValid = false) :
    ∃ u, Reaches 7 s u ∧ u.phase = .idle ∧ u.lines = rest ∧ u.bitseqs = .error 5 :: s.bitseqs := by
  obtain ⟨u, hreach, ⟨hphase, -⟩, hbitseqs⟩ := reaches_test hr hp hl (exec_bbsNext_notReady hp hv) (coreRun_zero _) rfl
  rw [afterBit_error (by simp [errCode])] at hreach
  exact ⟨_, hreach, hphase, rfl, congrArg _ hbitseqs⟩

/-- Settles O46, by induction on the calls; each is a CALL whose pair the test reads. -/
theorem bitseqReturnsTheBitsInCallOrder : Obligations.BitseqReturnsTheBitsInCallOrder := by
  intro s n rest hp hr hl
  refine ⟨fun hv hn => ?_, fun hv hcalls => ?_, ?_⟩
  · obtain ⟨u, hreach, hidle, hlines, hbits, hvalid, hmod, hfinal⟩ := reaches_bits hr hp hl hv hn
    obtain ⟨k, hk, hrun⟩ := hreach.exists_run
    refine ⟨k, u, by omega, hrun, hidle, hlines, hbits, hvalid, hmod, fun hne => ?_⟩
    rcases hfinal with ⟨-, h0⟩ | ⟨hpow, -⟩
    · exact absurd h0 hne
    · exact hpow
  · obtain ⟨m, rfl⟩ := Nat.exists_eq_succ_of_ne_zero hcalls
    obtain ⟨u, hreach, hidle, hlines, herror⟩ := reaches_notReady hr hp hl hv
    obtain ⟨k, hk, hrun⟩ := hreach.exists_run
    exact ⟨k, u, hk, hrun, hidle, hlines, herror⟩
  · rintro rfl
    obtain ⟨ts, hreach⟩ := reaches_return hr hp hl
    obtain ⟨k, hk, hrun⟩ := hreach.exists_run
    exact ⟨k, _, hk, hrun, rfl⟩

end Sys2Proof.Machine
end
